-- ==== Sys2Proof/Word.lean ====
section
/-! DEFINITION. The widths of the machine (00_scope.md R8): bytes and 16-bit words. -/

namespace Sys2Proof

/-- An 8-bit value: an accumulator, a memory cell, a chip register (R8). -/
abbrev Byte := BitVec 8

/-- A 16-bit value: X, SP, PC, an address (R8). -/
abbrev Word := BitVec 16

end Sys2Proof
end

