-- ==== Sys2Proof/Machine/Bits.lean ====
section
/-! DEFINITION. Halves, joins and extensions of words (00_scope.md R16). -/

namespace Sys2Proof

/-- `hi8(w) = w[15:8]` (R16). -/
def hi8 (w : Word) : Byte := w.extractLsb' 8 8

/-- `lo8(w) = w[7:0]` (R16). -/
def lo8 (w : Word) : Byte := w.extractLsb' 0 8

/-- `h ## l`, the left operand more significant (R16). -/
def join (h l : Byte) : Word := h ++ l

/-- `zext_16(b)` (R16). -/
def zext16 (b : Byte) : Word := b.zeroExtend 16

/-- `sext_16(b)` (R16). -/
def sext16 (b : Byte) : Word := b.signExtend 16

end Sys2Proof
end

