-- ==== Sys2Proof/Config.lean ====
section
/-! DEFINITION. What is fixed when a machine is constructed (00_scope.md R9 to R15), as plain data, and the free values. -/

namespace Sys2Proof

/-- What stands behind a device-backed region: the core's timer/IO chip, or a device outside the core (10_state.md R47). -/
inductive Device where
  | chip
  | external (id : Nat)
  deriving DecidableEq, Repr

/-- The access mode of a region (20_memory.md R60, R64). A device-backed region with nothing bound is "invalid chip
wiring" (R62). -/
inductive AccessMode where
  | readWrite
  | readOnly
  | deviceBacked (bound : Option Device)
  deriving DecidableEq, Repr

/-- A region of the address space (20_memory.md R60): it covers `base .. base + length - 1`. -/
structure Region where
  base   : Nat
  length : Nat
  mode   : AccessMode
  deriving DecidableEq, Repr

/-- How the bus turns the chip's line into `signal_irq()` (00_scope.md R15, 60_exceptions.md R345). -/
inductive IrqRouting where
  | risingEdgePerTick
  | levelPerTick
  deriving DecidableEq, Repr

/-- `PARKED_CHARGE` (00_scope.md R15, D10): what a decision that stays parked charges. The decided instance is the whole
remaining budget; any other is a fixed number of cycles. Log 11. -/
inductive ParkedCharge where
  | remainingBudget
  | fixed (cycles : Nat)
  deriving DecidableEq, Repr

/-- A register bit of the chip: bit `bit` of register `reg`. -/
structure ControlBit where
  reg : BitVec 4
  bit : Fin 8
  deriving DecidableEq, Repr

/-- `EXT_FLAGS` (45_mb8861_extension.md R310) as plain data: each of its four functions by the values at which it differs
from the decided default of R311 to R314. A key is `(r, CC)`, for TMM `(imm, m, CC)`, with CC the flags before, packed
(10_state.md R31); its value is N, Z and V, as bits 2, 1 and 0. The decided instance has no entry. Log 10. -/
structure ExtFlags where
  nim : List ((Byte × Byte) × BitVec 3)
  oim : List ((Byte × Byte) × BitVec 3)
  xim : List ((Byte × Byte) × BitVec 3)
  tmm : List ((Byte × Byte × Byte) × BitVec 3)
  deriving DecidableEq, Repr

/-- The ordered list of attached peripherals (60_exceptions.md R340): the core's one chip, with the devices outside the core
that were constructed before it and after it. Log 18. -/
structure Peripherals where
  before : List Nat
  after  : List Nat
  deriving DecidableEq, Repr

/-- The construction parameters of 00_scope.md R9 to R15, with `EXT_FLAGS` of 45_mb8861_extension.md R310 and the peripherals of
60_exceptions.md R340. Each is the spec's parameter of the same name. -/
structure Params where
  vecIrq      : Word
  vecSwi      : Word
  vecNmi      : Word
  vecReset    : Word
  /-- `CYC[op]`, one entry for each opcode byte (R10). -/
  cyc         : List Nat
  cycReset    : Nat
  cycNmi      : Nat
  cycIrq      : Nat
  cycHalt     : Nat
  cycUnimpl   : Nat
  sentinel    : Byte
  regions     : List Region
  extMb8861   : Bool
  nmiSetsI    : Bool
  resetA      : Byte
  resetB      : Byte
  resetX      : Word
  resetSp     : Word
  resetH      : Bool
  resetN      : Bool
  resetZ      : Bool
  resetV      : Bool
  resetC      : Bool
  ierReadBit7 : Bool
  irqRouting  : IrqRouting
  parkedCharge : ParkedCharge
  /-- which register bit selects free-run for timer 2, if any does -/
  t2FreeRunControl : Option ControlBit
  extFlags    : ExtFlags
  peripherals : Peripherals
  deriving DecidableEq, Repr

/-- FREE VALUE. V after the `k`-th use of a free value, when that use is a DAA (41_arithmetic.md R186, U1). Log 7. -/
opaque Config.daaOverflow : Nat → Bool

/-- FREE VALUE. The byte the device `id` outside the core answers to a read of `addr`, when the `k`-th use of a free value is
that read (10_state.md R47, 20_memory.md R64); its arguments are `k`, `id` and `addr`, and no write or
tick the device has seen. Log 7. -/
opaque Config.externalByte : Nat → Nat → Word → Byte

/-- FREE VALUE. `ST16_FLAGS` (00_scope.md R14, 40_load_store_transfer.md R148): N, Z and V, as bits 2, 1 and 0, after a
16-bit store, from its opcode byte, the value stored and the flags before (packed as the CC byte of R31). H, I and C
are no part of the answer, since the function leaves them unchanged. Log 9. -/
opaque Config.st16Flags : Byte → Word → Byte → BitVec 3

end Sys2Proof
end

