-- ==== Sys2Proof/Machine/Decided.lean ====
section
/-! DEFINITION. The decided instance of the construction parameters (92_eei_decisions.md), and the check of a
configuration (20_memory.md R62). -/

namespace Sys2Proof

/-- `CYC[op]` for opcode bytes 0x00 to 0x3F: the first four rows of the grid of 30_encoding.md R111. -/
def cyclesInherent : List Nat :=
  [1, 2, 1, 1, 1, 1, 2, 2, 4, 4, 2, 2, 2, 2, 2, 2] ++
  [2, 2, 1, 1, 1, 1, 2, 2, 1, 2, 1, 2, 1, 1, 1, 1] ++
  [4, 1, 4, 4, 4, 4, 4, 4, 4, 4, 4, 4, 4, 4, 4, 4] ++
  [4, 4, 4, 4, 4, 4, 4, 4, 1, 5, 1, 10, 1, 1, 9, 12]

/-- `CYC[op]` for opcode bytes 0x40 to 0x7F: the single-operand group (R111). -/
def cyclesSingle : List Nat :=
  [2, 1, 1, 2, 2, 1, 2, 2, 2, 2, 2, 1, 2, 2, 1, 2] ++
  [2, 1, 1, 2, 2, 1, 2, 2, 2, 2, 2, 1, 2, 2, 1, 2] ++
  [7, 1, 1, 7, 7, 1, 7, 7, 7, 7, 7, 1, 7, 7, 4, 7] ++
  [6, 8, 8, 6, 6, 8, 6, 6, 6, 6, 6, 7, 6, 6, 3, 6]

/-- `CYC[op]` for opcode bytes 0x80 to 0xBF: the A half of the accumulator-and-memory group (R111). -/
def cyclesA : List Nat :=
  [2, 2, 2, 1, 2, 2, 2, 1, 2, 2, 2, 2, 3, 8, 3, 1] ++
  [3, 3, 3, 1, 3, 3, 3, 4, 3, 3, 3, 3, 4, 1, 4, 5] ++
  [5, 5, 5, 1, 5, 5, 5, 6, 5, 5, 5, 5, 6, 8, 6, 7] ++
  [4, 4, 4, 1, 4, 4, 4, 5, 4, 4, 4, 4, 5, 9, 5, 6]

/-- `CYC[op]` for opcode bytes 0xC0 to 0xFF: the B half of the accumulator-and-memory group (R111). -/
def cyclesB : List Nat :=
  [2, 2, 2, 1, 2, 2, 2, 1, 2, 2, 2, 2, 1, 1, 3, 1] ++
  [3, 3, 3, 1, 3, 3, 3, 4, 3, 3, 3, 3, 1, 1, 4, 5] ++
  [5, 5, 5, 1, 5, 5, 5, 6, 5, 5, 5, 5, 3, 1, 6, 7] ++
  [4, 4, 4, 1, 4, 4, 4, 5, 4, 4, 4, 4, 7, 1, 5, 6]

/-- The decided table `CYC` (70_reset_and_hazards.md R420, 30_encoding.md R111). -/
def cycleTable : List Nat := cyclesInherent ++ cyclesSingle ++ cyclesA ++ cyclesB

/-- PRESUMED, log 5: the JR-100 map that 20_memory.md R75 gives as an example instance of `REGIONS`. -/
def jr100Regions : List Region :=
  [ ⟨0x0000, 0x4000, .readWrite⟩,
    ⟨0xC000, 0x0100, .readWrite⟩,
    ⟨0xC100, 0x0300, .readWrite⟩,
    ⟨0xC800, 0x0010, .deviceBacked (some .chip)⟩,
    ⟨0xE000, 0x2000, .readOnly⟩ ]

/-- The decided instance of every parameter, and for the OPEN ones a named choice: `SENTINEL` and the `RESET_*` values 0
(DESIGN CHOICE, logs 1 and 4), `REGIONS` the JR-100 example (log 5), and no peripheral but the chip (DESIGN CHOICE,
log 18). -/
def decidedParams : Params where
  vecIrq := 0xFFF8
  vecSwi := 0xFFFA
  vecNmi := 0xFFFC
  vecReset := 0xFFFE
  cyc := cycleTable
  cycReset := 12
  cycNmi := 12
  cycIrq := 12
  cycHalt := 1
  cycUnimpl := 1
  sentinel := 0x00
  regions := jr100Regions
  extMb8861 := true
  nmiSetsI := false
  resetA := 0x00
  resetB := 0x00
  resetX := 0x0000
  resetSp := 0x0000
  resetH := false
  resetN := false
  resetZ := false
  resetV := false
  resetC := false
  ierReadBit7 := true
  irqRouting := .risingEdgePerTick
  parkedCharge := .remainingBudget
  t2FreeRunControl := none
  extFlags := ⟨[], [], [], []⟩
  peripherals := ⟨[], []⟩

/-- The attached peripherals in construction order (60_exceptions.md R340). -/
def Peripherals.order (p : Peripherals) : List Device :=
  p.before.map Device.external ++ Device.chip :: p.after.map Device.external

/-- `r` covers address `a` (20_memory.md R60, R61). -/
def Region.covers (r : Region) (a : Nat) : Bool := decide (r.base ≤ a) && decide (a < r.base + r.length)

/-- Two regions share no address (R62). -/
def Region.disjoint (r q : Region) : Bool :=
  decide (r.base + r.length ≤ q.base) || decide (q.base + q.length ≤ r.base)

/-- A region on its own is well made (R62): not of length zero, not past the top of the space, not a device-backed region
with no callback bound. -/
def Region.valid (r : Region) : Bool :=
  decide (0 < r.length) && decide (r.base + r.length ≤ 65536) && decide (r.mode ≠ .deviceBacked none)

/-- The check of `REGIONS` at construction (R62). -/
def regionsValid : List Region → Bool
  | [] => true
  | r :: rs => r.valid && rs.all (fun q => r.disjoint q) && regionsValid rs

/-- A parked decision with budget left charges something (D10: at least 1). -/
def ParkedCharge.positive : ParkedCharge → Bool
  | .remainingBudget => true
  | .fixed n => decide (0 < n)

/-- Every cost is positive (70_reset_and_hazards.md R421), so that a budget runs out. -/
def Params.costsPositive (p : Params) : Bool :=
  p.cyc.all (fun n => decide (0 < n)) && decide (0 < p.cycReset) && decide (0 < p.cycNmi) && decide (0 < p.cycIrq) &&
    decide (0 < p.cycHalt) && decide (0 < p.cycUnimpl) && p.parkedCharge.positive

end Sys2Proof
end

