-- ==== Sys2Proof/Machine/State.lean ====
section
/-! DEFINITION. All state of the machine as plain data (10_state.md), the host's calls, the outcomes, and the state after
reset. -/

namespace Sys2Proof.Machine

/-- The six flags (10_state.md R24). -/
structure Flags where
  h : Bool
  i : Bool
  n : Bool
  z : Bool
  v : Bool
  c : Bool
  deriving DecidableEq, Repr

/-- A timer of the chip: 16-bit counter, 16-bit reload latch, the `armed` marker (R43). Its mode bit is not here: timer
1's is bit 6 of ACR, timer 2's is `Via.t2FreeRun`. -/
structure Timer where
  counter : Word
  latch   : Word
  armed   : Bool
  deriving DecidableEq, Repr

/-- The two ports (R42). -/
inductive Port where
  | a
  | b
  deriving DecidableEq, Repr

/-- One call of the chip's output callback (60_exceptions.md R359). R356 says that `CB2_OUT` is reported through it too, but
`port_out(port, OR, DDR)` has no place for that level: an event `cb2` of its own that carries it, one for each shift out
whether or not the level changes, is DESIGN CHOICE, log 17. -/
inductive PortEvent where
  | pins (port : Port) (output direction : Byte)
  | cb2 (level : Bool)
  deriving DecidableEq, Repr

/-- The timer/IO chip (R42 to R46), its input lines `ina`, `inb`, `cb2In` and its output line `cb2Out` (R42, R356).
`portLog` is the model's own: the callbacks made so far, newest first. -/
structure Via where
  ora       : Byte
  orb       : Byte
  ddra      : Byte
  ddrb      : Byte
  t1        : Timer
  t2        : Timer
  t2FreeRun : Bool
  sr        : Byte
  srCount   : Nat
  acr       : Byte
  pcr       : Byte
  /-- bits 6 to 0 of the interrupt-flag byte (R45); bit 7 is computed on read -/
  ifr       : BitVec 7
  /-- bits 6 to 0 of the interrupt-enable byte (R45); bit 7 is computed on read -/
  ier       : BitVec 7
  ina       : Byte
  inb       : Byte
  cb2In     : Bool
  cb2Out    : Bool
  portLog   : List PortEvent
  deriving DecidableEq, Repr

/-- The four control lines, named by their flag bit in `IFR` (60_exceptions.md R361, R372). -/
inductive ControlLine where
  | ca2
  | ca1
  | cb2
  | cb1
  deriving DecidableEq, Repr

/-- A snapshot of the full state (10_state.md R54, D37): the registers, flags, latches, `parked`, the chip's registers, timers
(`T2_FREERUN` among them, R43) and shift state, the memory contents by address, `CYCLES` and `IRQ_LINE_PREV`. The lines of the
chip are inputs and outputs of the block and no part of it (log 14). -/
structure Snapshot where
  a            : Byte
  b            : Byte
  x            : Word
  sp           : Word
  pc           : Word
  flags        : Flags
  resetPending : Bool
  nmiPending   : Bool
  irqPending   : Bool
  halt         : Bool
  parked       : Bool
  ora          : Byte
  orb          : Byte
  ddra         : Byte
  ddrb         : Byte
  t1           : Timer
  t2           : Timer
  t2FreeRun    : Bool
  sr           : Byte
  srCount      : Fin 9
  acr          : Byte
  pcr          : Byte
  ifr          : BitVec 7
  ier          : BitVec 7
  cells        : List (Word × Byte)
  cycles       : Nat
  irqLinePrev  : Bool
  deriving DecidableEq, Repr

/-- An input event of the block: a call by which the host, or a device outside the core, raises a signal or sets a line. -/
inductive Signal where
  /-- the CPU's `reset()` (10_state.md R34) -/
  | reset
  /-- `signal_nmi()` (R35) -/
  | nmi
  /-- `signal_irq()` (R36, 60_exceptions.md R325) -/
  | irq
  /-- `signal_halt(level)` (R37) -/
  | halt (level : Bool)
  /-- the external line values of the ports (60_exceptions.md R350, R369, R370) -/
  | inputA (v : Byte)
  | inputB (v : Byte)
  /-- the level of `CB2_IN` (R356) -/
  | inputCb2 (level : Bool)
  /-- `ctl_event(k)` (R372) -/
  | ctlEvent (line : ControlLine)
  /-- `t2_pulse()` (R355) -/
  | t2Pulse
  /-- `sr_ext_pulse()` (R357) -/
  | srExtPulse
  deriving DecidableEq, Repr

/-- A call the host makes between `step` calls (00_scope.md R7, 60_exceptions.md R326, R350). -/
inductive HostCall where
  /-- an input event -/
  | signal (e : Signal)
  /-- the CPU's `step(max_cycles)` without the bus (60_exceptions.md R320, R346) -/
  | step (maxCycles : Int)
  /-- the bus's `tick(cycles)` (R344) -/
  | tick (cycles : Int)
  /-- the memory primitives (20_memory.md R83) -/
  | read8 (addr : Word)
  | write8 (addr : Word) (v : Byte)
  | read16 (addr : Word)
  | write16 (addr : Word) (w : Word)
  /-- the chip's `reset()` (10_state.md R52) -/
  | chipReset
  /-- the chip's `tick(elapsed_cycles)` on its own (60_exceptions.md R346, R351) -/
  | chipTick (elapsed : Nat)
  /-- the bus's routing of the line on its own (R345, R346) -/
  | routeIrq
  /-- the chip's `register_read` and `register_write` (R350) -/
  | registerRead (reg : BitVec 4)
  | registerWrite (reg : BitVec 4) (v : Byte)
  /-- export and import of the full state (10_state.md R54) -/
  | exportState
  | importState (snap : Snapshot)
  deriving DecidableEq, Repr

/-- What the block reports to the host (00_scope.md R6): the results of calls, and the calls of devices outside the core. -/
inductive Output where
  /-- `step` returned this many consumed cycles (60_exceptions.md R320) -/
  | consumed (cycles : Nat)
  /-- a byte read by `read8` or `register_read` -/
  | byte (v : Byte)
  /-- a word read by `read16` -/
  | word (w : Word)
  /-- the full state, exported -/
  | snapshot (snap : Snapshot)
  /-- the handler of the device `id` outside the core was called to read `addr` (10_state.md R47, 20_memory.md R64) -/
  | externalRead (id : Nat) (addr : Word)
  /-- the handler of the device `id` outside the core was called to write `v` at `addr` (R47, R64) -/
  | externalWrite (id : Nat) (addr : Word) (v : Byte)
  /-- the bus forwarded elapsed cycles to the device `id` outside the core (60_exceptions.md R344) -/
  | externalTick (id cycles : Nat)
  deriving DecidableEq, Repr

/-- A `step` or `tick` call in progress (60_exceptions.md R320, R344). -/
structure Call where
  /-- the bus made it: at its end the chip is ticked and the line routed (R344) -/
  bus      : Bool
  /-- `max_cycles` -/
  budget   : Nat
  /-- `consumed`, the cycles of the decisions made so far -/
  consumed : Nat
  deriving DecidableEq, Repr

/-- The machine. `a` to `cycles` and `irqLinePrev` are the spec's state (10_state.md R20 to R48); `cfg` is its
construction parameters, which no step writes (log 4); `call` to `free` are the model's own (logs 6, 7 and 18). -/
structure State where
  a            : Byte
  b            : Byte
  x            : Word
  sp           : Word
  pc           : Word
  flags        : Flags
  resetPending : Bool
  nmiPending   : Bool
  irqPending   : Bool
  halt         : Bool
  parked       : Bool
  via          : Via
  /-- the backing bytes of the read-write and read-only regions (R47), by absolute address, in canonical form -/
  mem          : List Host.Cell
  cycles       : Nat
  irqLinePrev  : Bool
  cfg          : Params
  /-- the call in progress, if one is -/
  call         : Option Call
  /-- the host's calls still to come, oldest first -/
  calls        : List HostCall
  /-- the budget of the `tick` the driving loop makes when `calls` is empty -/
  chunk        : Nat
  /-- what has been reported to the host, newest first -/
  outs         : List Output
  /-- what the devices outside the core do when the bus ticks them, one entry for each such tick still to come, in order -/
  reactions    : List (List Signal)
  /-- how many free values the run has used -/
  free         : Nat
  deriving DecidableEq, Repr

/-- A fault is not an event of the machine: no step raises one (00_scope.md R19, 60_exceptions.md R324). -/
inductive Fault where
  /-- Raised by `construct` for a configuration that fails the check of 20_memory.md R62 (R63). Safe: no machine exists. -/
  | configurationError
  deriving DecidableEq, Repr

/-- Why a call is refused. -/
inductive Refusal where
  /-- An instruction without a meaning yet; no arm of `exec` answers it. Safe: the model stops. -/
  | notModelled (mnemonic : String)
  /-- A negative cycle budget, `raise Misuse` (60_exceptions.md R320). Raised by the host calls `step` and `tick`, before
  any change. Safe: the spec refuses it too. -/
  | misuse
  deriving DecidableEq, Repr

/-- The chip after its own `reset()` on a newly constructed machine (10_state.md R52); the input and output lines are DESIGN
CHOICE 0 (log 3). -/
def viaInitial : Via where
  ora := 0
  orb := 0
  ddra := 0
  ddrb := 0
  t1 := ⟨0, 0, false⟩
  t2 := ⟨0, 0, false⟩
  t2FreeRun := false
  sr := 0
  srCount := 8
  acr := 0
  pcr := 0
  ifr := 0
  ier := 0
  ina := 0
  inb := 0
  cb2In := false
  cb2Out := false
  portLog := []

/-- A machine right after construction with parameters `p` and no memory image (10_state.md R51): as after reset but
that PC is not loaded, here DESIGN CHOICE 0 (log 2). -/
def State.constructed (p : Params) : State where
  a := p.resetA
  b := p.resetB
  x := p.resetX
  sp := p.resetSp
  pc := 0
  flags := ⟨p.resetH, true, p.resetN, p.resetZ, p.resetV, p.resetC⟩
  resetPending := false
  nmiPending := false
  irqPending := false
  halt := false
  parked := false
  via := viaInitial
  mem := []
  cycles := 0
  irqLinePrev := false
  cfg := p
  call := none
  calls := []
  chunk := 1
  outs := []
  reactions := []
  free := 0

/-- The machine right after the CPU's reset sequence (10_state.md R50, R401), with the decided parameters and nothing
placed in memory: PC is what the two unwritten bytes at the reset vector read as, 0x0000 (log 2). The RESET_* values are
DESIGN CHOICE 0 (log 1). -/
def State.reset : State where
  a := 0x00
  b := 0x00
  x := 0x0000
  sp := 0x0000
  pc := 0x0000
  flags := ⟨false, true, false, false, false, false⟩
  resetPending := false
  nmiPending := false
  irqPending := false
  halt := false
  parked := false
  via := viaInitial
  mem := []
  cycles := 0
  irqLinePrev := false
  cfg := decidedParams
  call := none
  calls := []
  chunk := 1
  outs := []
  reactions := []
  free := 0

/-! Named updates, one field each. Their lemmas stand in Sys2Proof/Laws/State.lean. -/

def State.setA (s : State) (v : Byte) : State := { s with a := v }
def State.setB (s : State) (v : Byte) : State := { s with b := v }
def State.setX (s : State) (w : Word) : State := { s with x := w }
def State.setSp (s : State) (w : Word) : State := { s with sp := w }
def State.setPc (s : State) (w : Word) : State := { s with pc := w }
def State.setFlags (s : State) (f : Flags) : State := { s with flags := f }
def State.setResetPending (s : State) (v : Bool) : State := { s with resetPending := v }
def State.setNmiPending (s : State) (v : Bool) : State := { s with nmiPending := v }
def State.setIrqPending (s : State) (v : Bool) : State := { s with irqPending := v }
def State.setHalt (s : State) (v : Bool) : State := { s with halt := v }
def State.setParked (s : State) (v : Bool) : State := { s with parked := v }
def State.setVia (s : State) (v : Via) : State := { s with via := v }
def State.setMem (s : State) (m : List Host.Cell) : State := { s with mem := m }
def State.setCycles (s : State) (n : Nat) : State := { s with cycles := n }
def State.setIrqLinePrev (s : State) (v : Bool) : State := { s with irqLinePrev := v }
def State.setCall (s : State) (c : Option Call) : State := { s with call := c }
def State.setCalls (s : State) (cs : List HostCall) : State := { s with calls := cs }
def State.setChunk (s : State) (n : Nat) : State := { s with chunk := n }
def State.setOuts (s : State) (os : List Output) : State := { s with outs := os }
def State.setReactions (s : State) (es : List (List Signal)) : State := { s with reactions := es }
def State.setFree (s : State) (n : Nat) : State := { s with free := n }

end Sys2Proof.Machine
end

