-- ==== Sys2Proof/Machine/Flags.lean ====
section
/-! DEFINITION. The condition-code byte and every flag computation: each function gives a result and the flags after it. -/

namespace Sys2Proof.Machine

/-- Reading CC: `0b11 ## H ## I ## N ## Z ## V ## C` (10_state.md R31). -/
def Flags.pack (f : Flags) : Byte :=
  0b11#2 ++ BitVec.ofBool f.h ++ BitVec.ofBool f.i ++ BitVec.ofBool f.n ++ BitVec.ofBool f.z ++ BitVec.ofBool f.v ++
    BitVec.ofBool f.c

/-- Writing CC from a byte; bits 7 and 6 are ignored (R31). -/
def Flags.unpack (v : Byte) : Flags :=
  ⟨v.getLsbD 5, v.getLsbD 4, v.getLsbD 3, v.getLsbD 2, v.getLsbD 1, v.getLsbD 0⟩

/-- `setNZ8(r)` (40_load_store_transfer.md R130). -/
def Flags.setNZ8 (f : Flags) (r : Byte) : Flags := { f with n := r.msb, z := r == 0 }

/-- `setNZ16(w)` (R130). -/
def Flags.setNZ16 (f : Flags) (w : Word) : Flags := { f with n := w.msb, z := w == 0 }

/-- The flags of loads, byte stores, transfers and logic: N and Z of the byte, V cleared (R131, 42_logic_shift.md R210). -/
def Flags.logic8 (f : Flags) (r : Byte) : Flags := { f.setNZ8 r with v := false }

/-- The flags of the 16-bit loads: N and Z of the word, V cleared (R135). -/
def Flags.load16 (f : Flags) (w : Word) : Flags := { f.setNZ16 w with v := false }

/-- N, Z and V from bits 2, 1 and 0; H, I and C unchanged. -/
def Flags.withNzv (f : Flags) (d : BitVec 3) : Flags :=
  { f with n := d.getLsbD 2, z := d.getLsbD 1, v := d.getLsbD 0 }

/-- The flags of a 16-bit store: N, Z and V are `ST16_FLAGS`, a free value; H, I and C unchanged (R148). Log 9. -/
def Flags.store16 (f : Flags) (op : Byte) (w : Word) : Flags :=
  f.withNzv (Config.st16Flags op w f.pack)

/-- `add8(a, m, cin)` (41_arithmetic.md R171). -/
def add8 (a m : Byte) (cin : Bool) (f : Flags) : Byte × Flags :=
  let s := a.toNat + m.toNat + cin.toNat
  let r := BitVec.ofNat 8 s
  (r, { f with
    h := decide (15 < a.toNat % 16 + m.toNat % 16 + cin.toNat)
    n := r.msb
    z := r == 0
    v := a.msb == m.msb && r.msb != a.msb
    c := decide (255 < s) })

/-- `sub8(a, m, bin)` (R172). H is not written. -/
def sub8 (a m : Byte) (bin : Bool) (f : Flags) : Byte × Flags :=
  let d : Int := (a.toNat : Int) - m.toNat - bin.toNat
  let r := BitVec.ofInt 8 d
  (r, { f with
    n := r.msb
    z := r == 0
    v := a.msb != m.msb && r.msb != a.msb
    c := decide (d < 0) })

/-- `neg8(m)` (R187). -/
def neg8 (m : Byte) (f : Flags) : Byte × Flags :=
  let r := 0 - m
  (r, { f with n := r.msb, z := r == 0, v := r == 0x80, c := r != 0 })

/-- `inc8(m)` (R191). -/
def inc8 (m : Byte) (f : Flags) : Byte × Flags :=
  let r := m + 1
  (r, { f with n := r.msb, z := r == 0, v := m == 0x7F })

/-- `dec8(m)` (R195). -/
def dec8 (m : Byte) (f : Flags) : Byte × Flags :=
  let r := m - 1
  (r, { f with n := r.msb, z := r == 0, v := m == 0x80 })

/-- The flags of TST (R199 to R201). -/
def tst8 (m : Byte) (f : Flags) : Flags := { f.setNZ8 m with v := false, c := false }

/-- The flags of CLR (40_load_store_transfer.md R149 to R151). -/
def clrFlags (f : Flags) : Flags := { f with n := false, z := true, v := false, c := false }

/-- The complement and its flags (42_logic_shift.md R219 to R221). -/
def com8 (m : Byte) (f : Flags) : Byte × Flags :=
  let r := m ^^^ 0xFF
  (r, { f.setNZ8 r with v := false, c := true })

/-- The common flag rule of shifts and rotates: `V <- N xor C` with the new N and C (R222). -/
def shiftFlags (r : Byte) (out : Bool) (f : Flags) : Flags :=
  { f with n := r.msb, z := r == 0, v := r.msb ^^ out, c := out }

/-- `asl8(m)` (R222). -/
def asl8 (m : Byte) (f : Flags) : Byte × Flags :=
  let r := m <<< 1
  (r, shiftFlags r (m.getLsbD 7) f)

/-- `asr8(m)`: `m[7] ## m[7:1]` (R222). -/
def asr8 (m : Byte) (f : Flags) : Byte × Flags :=
  let r : Byte := BitVec.ofBool (m.getLsbD 7) ++ m.extractLsb' 1 7
  (r, shiftFlags r (m.getLsbD 0) f)

/-- `lsr8(m)`: `0 ## m[7:1]` (R222). -/
def lsr8 (m : Byte) (f : Flags) : Byte × Flags :=
  let r : Byte := 0#1 ++ m.extractLsb' 1 7
  (r, shiftFlags r (m.getLsbD 0) f)

/-- `rol8(m)`: `m[6:0] ## C` (R222). -/
def rol8 (m : Byte) (f : Flags) : Byte × Flags :=
  let r : Byte := m.extractLsb' 0 7 ++ BitVec.ofBool f.c
  (r, shiftFlags r (m.getLsbD 7) f)

/-- `ror8(m)`: `C ## m[7:1]` (R222). -/
def ror8 (m : Byte) (f : Flags) : Byte × Flags :=
  let r : Byte := BitVec.ofBool f.c ++ m.extractLsb' 1 7
  (r, shiftFlags r (m.getLsbD 0) f)

/-- The correction `cf` of DAA (41_arithmetic.md R186). -/
def daaCorrection (a : Byte) (f : Flags) : Nat :=
  let lsn := a.toNat % 16
  let msn := a.toNat / 16
  (if 9 < lsn ∨ f.h = true then 0x06 else 0) +
    (if 9 < msn ∨ f.c = true ∨ (8 < msn ∧ 9 < lsn) then 0x60 else 0)

/-- DAA (R186). `v` is the unspecified V, a free value the step supplies (log 7); C is never cleared; H unchanged. -/
def daa8 (a : Byte) (v : Bool) (f : Flags) : Byte × Flags :=
  let t := a.toNat + daaCorrection a f
  let r := BitVec.ofNat 8 t
  (r, { f with n := r.msb, z := r == 0, v := v, c := f.c || decide (255 < t) })

/-- The flags of CPX: N and V from the high bytes alone, Z from all 16 bits, C unchanged (R206). -/
def cpxFlags (x w : Word) (f : Flags) : Flags :=
  let rh := hi8 x - hi8 w
  { f with n := rh.msb, v := x.msb != w.msb && rh.msb != x.msb, z := x == w }

/-- ADX: the 16-bit addition and its flags; H not written (45_mb8861_extension.md R315). -/
def add16 (x w : Word) (f : Flags) : Word × Flags :=
  let s := x.toNat + w.toNat
  let r := BitVec.ofNat 16 s
  (r, { f with
    n := r.msb
    z := r == 0
    v := x.msb == w.msb && r.msb != x.msb
    c := decide (65535 < s) })

/-- The decided default of `nim_flags`: N is "result not zero" (R311). -/
def nimDefault (r : Byte) (f : Flags) : Flags := { f with z := r == 0, n := r != 0, v := false }

/-- The decided default of `oim_flags` (R312). -/
def oimDefault (r : Byte) (f : Flags) : Flags := { f with z := r == 0, n := r != 0, v := false }

/-- The decided default of `xim_flags`: V is not written (R313). -/
def ximDefault (r : Byte) (f : Flags) : Flags := { f with z := r == 0, n := r != 0 }

/-- The decided default of `tmm_flags` (R314). -/
def tmmDefault (imm m : Byte) (f : Flags) : Flags :=
  if imm = 0 ∨ m = 0 then { f with n := false, z := true, v := false }
  else if m = 0xFF then { f with n := false, z := false, v := true }
  else { f with n := true, z := false, v := false }

/-- The flags an entry of `EXT_FLAGS` gives, the default where there is none (R310). -/
def Flags.fromEntry (f : Flags) (entry : Option (BitVec 3)) (default : Flags) : Flags :=
  match entry with
  | some d => f.withNzv d
  | none => default

/-- `nim_flags` (R310). -/
def nimFlags (e : ExtFlags) (r : Byte) (f : Flags) : Flags := f.fromEntry (e.nim.lookup (r, f.pack)) (nimDefault r f)

/-- `oim_flags` (R310). -/
def oimFlags (e : ExtFlags) (r : Byte) (f : Flags) : Flags := f.fromEntry (e.oim.lookup (r, f.pack)) (oimDefault r f)

/-- `xim_flags` (R310). -/
def ximFlags (e : ExtFlags) (r : Byte) (f : Flags) : Flags := f.fromEntry (e.xim.lookup (r, f.pack)) (ximDefault r f)

/-- `tmm_flags` (R310). -/
def tmmFlags (e : ExtFlags) (imm m : Byte) (f : Flags) : Flags :=
  f.fromEntry (e.tmm.lookup (imm, m, f.pack)) (tmmDefault imm m f)

end Sys2Proof.Machine
end

