-- ==== Sys2Proof/Machine/Memory.lean ====
section
/-! DEFINITION. Backing bytes as a list of cells in one canonical form: addresses strictly rising and below 65536, no cell
equal to what an unlisted address reads as (10_state.md R47, R53). -/

namespace Sys2Proof.Machine

/-- What a backed cell that nothing has written reads as. DESIGN CHOICE, log 2: the spec gives no value (R53, U5). -/
def unwritten : Byte := 0x00

/-- The byte at an address. -/
def memGet : List Host.Cell → Nat → Byte
  | [], _ => unwritten
  | c :: m, a => if c.1 = a then c.2 else memGet m a

/-- The cells for one address holding one byte: none when the byte is what an unlisted address reads as. -/
def memCell (a : Nat) (v : Byte) : List Host.Cell := if v = unwritten then [] else [(a, v)]

/-- Replace the byte at an address, keeping the canonical form. -/
def memSet : List Host.Cell → Nat → Byte → List Host.Cell
  | [], a, v => memCell a v
  | c :: m, a, v =>
    if a < c.1 then memCell a v ++ c :: m
    else if a = c.1 then memCell a v ++ m
    else c :: memSet m a v

/-- The canonical form from address `lo` on. -/
def memWfFrom : Nat → List Host.Cell → Bool
  | _, [] => true
  | lo, c :: m => decide (lo ≤ c.1) && decide (c.1 < 65536) && c.2 != unwritten && memWfFrom (c.1 + 1) m

/-- The canonical form holds. -/
def Memory.wf (m : List Host.Cell) : Bool := memWfFrom 0 m

end Sys2Proof.Machine
end

