-- ==== Sys2Proof/Machine/Via.lean ====
section
/-! DEFINITION. The timer/IO chip on its own (60_exceptions.md part H): registers, timers, shift register, flags, line. -/

namespace Sys2Proof.Machine

/-- The interrupt-flag bits as masks (R361). -/
def flagT1 : BitVec 7 := 0x40
def flagT2 : BitVec 7 := 0x20
def flagSr : BitVec 7 := 0x04

/-- The flag bit of a control line (R361): CA2 0, CA1 1, CB2 3, CB1 4. -/
def ControlLine.flag : ControlLine → BitVec 7
  | .ca2 => 0x01
  | .ca1 => 0x02
  | .cb2 => 0x08
  | .cb1 => 0x10

/-- Set flags of `IFR`. -/
def Via.raise (v : Via) (mask : BitVec 7) : Via := { v with ifr := v.ifr ||| mask }

/-- Clear flags of `IFR`. -/
def Via.clear (v : Via) (mask : BitVec 7) : Via := { v with ifr := v.ifr &&& ~~~mask }

/-- `irq_line()` (R358). -/
def Via.irqLine (v : Via) : Bool := v.ifr &&& v.ier != 0

/-- `T1_FREERUN = ACR[6]` (R354). -/
def Via.t1FreeRun (v : Via) : Bool := v.acr.getLsbD 6

/-- `ACR[5]`: timer 2 counts external pulses and not cycles (R355). -/
def Via.t2Pulses (v : Via) : Bool := v.acr.getLsbD 5

/-- `SR_MODE = ACR[4:2]` (R357). -/
def Via.srMode (v : Via) : BitVec 3 := v.acr.extractLsb' 2 3

/-- `SR_MODE in (0b001, 0b100, 0b101)`: one shift per underflow of timer 2 (R351, R357). -/
def Via.srOnTimer2 (v : Via) : Bool := v.srMode == 0b001 || v.srMode == 0b100 || v.srMode == 0b101

/-- `SR_MODE in (0b010, 0b110)`: one shift per elapsed cycle (R351, R357). -/
def Via.srOnCycle (v : Via) : Bool := v.srMode == 0b010 || v.srMode == 0b110

/-- `SR_MODE in (0b011, 0b111)`: one shift per external pulse (R357). -/
def Via.srOnPulse (v : Via) : Bool := v.srMode == 0b011 || v.srMode == 0b111

/-- One timer cycle (R352): the timer after it, and whether it underflowed. Raising the flag is the caller's. -/
def timerCycle (freeRun : Bool) (t : Timer) : Timer × Bool :=
  if t.armed = false then (t, false)
  else if t.counter ≠ 0 then ({ t with counter := t.counter - 1 }, false)
  else if freeRun then ({ t with counter := t.latch }, true)
  else ({ t with counter := 0xFFFF, armed := false }, true)

/-- `timer_cycle(T1)` with its flag (R352, R354). -/
def Via.t1Cycle (v : Via) : Via × Bool :=
  let r := timerCycle v.t1FreeRun v.t1
  let v' := { v with t1 := r.1 }
  (if r.2 then v'.raise flagT1 else v', r.2)

/-- `timer_cycle(T2)` with its flag (R352, R355). -/
def Via.t2Cycle (v : Via) : Via × Bool :=
  let r := timerCycle v.t2FreeRun v.t2
  let v' := { v with t2 := r.1 }
  (if r.2 then v'.raise flagT2 else v', r.2)

/-- `SR <- SR[6:0] ## bit`. -/
def shiftInto (sr : Byte) (bit : Bool) : Byte := sr.extractLsb' 0 7 ++ BitVec.ofBool bit

/-- The bit moved by a shift, before it is counted (R356): in from `CB2_IN`, or out to `CB2_OUT` and round to bit 0.
How the level of `CB2_OUT` is reported is DESIGN CHOICE, log 17. -/
def Via.srMove (v : Via) : Via :=
  if v.srMode.getLsbD 2 = false then { v with sr := shiftInto v.sr v.cb2In }
  else
    let out := v.sr.getLsbD 7
    { v with sr := shiftInto v.sr out, cb2Out := out, portLog := .cb2 out :: v.portLog }

/-- The count of a shift, and the flag at the eighth (R356). -/
def Via.srTally (v : Via) (before : Nat) : Via :=
  let v' := { v with srCount := before + 1 }
  if before + 1 = 8 then v'.raise flagSr else v'

/-- `sr_shift()` (R356). -/
def Via.srShift (v : Via) : Via :=
  if v.srCount = 8 ∧ v.srMode ≠ 0b100 then v
  else v.srMove.srTally (if v.srCount = 8 then 0 else v.srCount)

/-- The part of `cycle()` after the timers (R351), with `u2` whether timer 2 underflowed. -/
def Via.srCycle (v : Via) (u2 : Bool) : Via :=
  if v.srOnTimer2 && u2 then v.srShift
  else if v.srOnCycle then v.srShift
  else v

/-- `cycle()`, one elapsed cycle (R351); in pulse mode timer 2 is not run (R355). -/
def Via.cycle (v : Via) : Via :=
  let v1 := v.t1Cycle.1
  if v1.t2Pulses then v1.srCycle false else v1.t2Cycle.1.srCycle v1.t2Cycle.2

/-- `tick(elapsed_cycles)`: that many cycles (R351). -/
def Via.tick : Nat → Via → Via
  | 0, v => v
  | n + 1, v => Via.tick n v.cycle

/-- `t2_pulse()` (R355): one timer 2 cycle in pulse mode, nothing otherwise; an underflow shifts in the modes that timer 2
clocks (R357). DEDUCED, log 12. -/
def Via.t2Pulse (v : Via) : Via :=
  if v.t2Pulses then
    let r := v.t2Cycle
    if r.1.srOnTimer2 && r.2 then r.1.srShift else r.1
  else v

/-- `sr_ext_pulse()` (R357). -/
def Via.srExtPulse (v : Via) : Via := if v.srOnPulse then v.srShift else v

/-- `ctl_event(k)` (R372). -/
def Via.ctlEvent (v : Via) (line : ControlLine) : Via := v.raise line.flag

/-- The chip's `reset()` (10_state.md R52). The input lines, `CB2_OUT` and the log of callbacks are no registers of the chip and
stay (log 3). -/
def Via.reset (v : Via) : Via :=
  { viaInitial with ina := v.ina, inb := v.inb, cb2In := v.cb2In, cb2Out := v.cb2Out, portLog := v.portLog }

/-- A port's pins as read: `(OR and DDR) or (IN and not DDR)` (R369). -/
def portPins (output direction input : Byte) : Byte := (output &&& direction) ||| (input &&& ~~~direction)

/-- `port_out(A, ORA, DDRA)` (R359). -/
def Via.reportA (v : Via) : Via := { v with portLog := .pins .a v.ora v.ddra :: v.portLog }

/-- `port_out(B, ORB, DDRB)` (R359). -/
def Via.reportB (v : Via) : Via := { v with portLog := .pins .b v.orb v.ddrb :: v.portLog }

/-- `register_read` (R360): the value and the chip after the read's side effect. `bit7` is `IER_READ_BIT7` (R363). -/
def Via.registerRead (bit7 : Bool) (v : Via) (reg : BitVec 4) : Byte × Via :=
  match reg.toNat with
  | 0x0 => (portPins v.orb v.ddrb v.inb, v)
  | 0x1 => (portPins v.ora v.ddra v.ina, v)
  | 0x2 => (v.ddrb, v)
  | 0x3 => (v.ddra, v)
  | 0x4 => (lo8 v.t1.counter, v.clear flagT1)
  | 0x5 => (hi8 v.t1.counter, v)
  | 0x6 => (lo8 v.t1.latch, v)
  | 0x7 => (hi8 v.t1.latch, v)
  | 0x8 => (lo8 v.t2.counter, v.clear flagT2)
  | 0x9 => (hi8 v.t2.counter, v)
  | 0xA => (v.sr, { v.clear flagSr with srCount := 0 })
  | 0xB => (v.acr, v)
  | 0xC => (v.pcr, v)
  | 0xD => (BitVec.ofBool v.irqLine ++ v.ifr, v)
  | 0xE => (BitVec.ofBool bit7 ++ v.ier, v)
  | _ => (portPins v.ora v.ddra v.ina, v)

/-- Write of `lo8(T1L)` (R364). -/
def Via.writeT1Low (v : Via) (b : Byte) : Via := { v with t1 := { v.t1 with latch := join (hi8 v.t1.latch) b } }

/-- Write of register 5: the latch's high byte, the counter from the latch, the flag cleared, the timer armed (R364). -/
def Via.armT1 (v : Via) (b : Byte) : Via :=
  let l := join b (lo8 v.t1.latch)
  { v.clear flagT1 with t1 := ⟨l, l, true⟩ }

/-- Write of register 7: the latch's high byte and the flag cleared (R364). -/
def Via.writeT1High (v : Via) (b : Byte) : Via :=
  { v.clear flagT1 with t1 := { v.t1 with latch := join b (lo8 v.t1.latch) } }

/-- Write of `lo8(T2L)` (R365). -/
def Via.writeT2Low (v : Via) (b : Byte) : Via := { v with t2 := { v.t2 with latch := join (hi8 v.t2.latch) b } }

/-- Write of register 9 (R365). -/
def Via.armT2 (v : Via) (b : Byte) : Via :=
  let l := join b (lo8 v.t2.latch)
  { v.clear flagT2 with t2 := ⟨l, l, true⟩ }

/-- Write of `IER` (R363): bit 7 selects setting or clearing the enables named by bits 6 to 0. -/
def Via.writeIer (v : Via) (b : Byte) : Via :=
  let mask := b.extractLsb' 0 7
  { v with ier := if b.getLsbD 7 then v.ier ||| mask else v.ier &&& ~~~mask }

/-- What each register stores, and the effect of storing it (R360). -/
def Via.storeRegister (v : Via) (reg : BitVec 4) (b : Byte) : Via :=
  match reg.toNat with
  | 0x0 => { v with orb := b }.reportB
  | 0x1 => { v with ora := b }.reportA
  | 0x2 => { v with ddrb := b }.reportB
  | 0x3 => { v with ddra := b }.reportA
  | 0x4 => v.writeT1Low b
  | 0x5 => v.armT1 b
  | 0x6 => v.writeT1Low b
  | 0x7 => v.writeT1High b
  | 0x8 => v.writeT2Low b
  | 0x9 => v.armT2 b
  | 0xA => { v.clear flagSr with sr := b, srCount := 0 }
  | 0xB => { v with acr := b }
  | 0xC => { v with pcr := b }
  | 0xD => v.clear (b.extractLsb' 0 7)
  | 0xE => v.writeIer b
  | _ => { v with ora := b }.reportA

/-- `T2_FREERUN` follows the register bit that `T2_FREERUN_CONTROL` names, at a write of that register (00_scope.md R15, R43,
R355). The decided instance names none. Log 11. -/
def Via.selectT2 (control : Option ControlBit) (reg : BitVec 4) (b : Byte) (v : Via) : Via :=
  match control with
  | none => v
  | some c => if c.reg = reg then { v with t2FreeRun := b.getLsbD c.bit.val } else v

/-- `register_write` (R360). `control` is `T2_FREERUN_CONTROL`. -/
def Via.registerWrite (control : Option ControlBit) (v : Via) (reg : BitVec 4) (b : Byte) : Via :=
  (v.storeRegister reg b).selectT2 control reg b

end Sys2Proof.Machine
end

