-- ==== Sys2Proof/Machine/Ops.lean ====
section
/-! DEFINITION. The memory primitives, fetch, the stack, the register frame, taking an interrupt and returning from one
(20_memory.md, 10_state.md R33, 44_system_flags_stack.md R288, R289, 60_exceptions.md G.2). -/

namespace Sys2Proof.Machine

/-- The region that owns an address; none when it is unmapped (20_memory.md R61). -/
def ownerOf (rs : List Region) (a : Word) : Option Region := rs.find? (fun r => r.covers a.toNat)

/-- The chip register an address selects: `(addr - VIA_BASE) mod 16`, `VIA_BASE` the base of the region (60_exceptions.md
R350, 00_scope.md R12). -/
def chipRegister (r : Region) (a : Word) : BitVec 4 := BitVec.ofNat 4 (a.toNat - r.base)

/-- A read of a chip register, with its side effect on the chip (R360). -/
def chipRead (s : State) (reg : BitVec 4) : Byte × State :=
  let r := s.via.registerRead s.cfg.ierReadBit7 reg
  (r.1, s.setVia r.2)

/-- A write of a chip register (R360). -/
def chipWrite (s : State) (reg : BitVec 4) (v : Byte) : State :=
  s.setVia (s.via.registerWrite s.cfg.t2FreeRunControl reg v)

/-- A read of a device outside the core calls its handler with the address (20_memory.md R64); the byte it answers is a free
value (10_state.md R47). Log 7. -/
def externalRead (s : State) (id : Nat) (a : Word) : Byte × State :=
  (Config.externalByte s.free id a, (s.setFree (s.free + 1)).setOuts (.externalRead id a :: s.outs))

/-- A write to a device outside the core calls its handler with the address and the byte (R64, R47). The spec is silent on how
the write bears on what the device answers later; that it does not, and leaves `free` as it is, is DESIGN CHOICE, log 7. -/
def externalWrite (s : State) (id : Nat) (a : Word) (v : Byte) : State := s.setOuts (.externalWrite id a v :: s.outs)

/-- `read8(a)` (20_memory.md R66). A device-backed region with nothing bound is no valid configuration (R62); it reads as
unmapped. -/
def read8 (s : State) (a : Word) : Byte × State :=
  match ownerOf s.cfg.regions a with
  | none => (s.cfg.sentinel, s)
  | some r =>
    match r.mode with
    | .readWrite => (memGet s.mem a.toNat, s)
    | .readOnly => (memGet s.mem a.toNat, s)
    | .deviceBacked none => (s.cfg.sentinel, s)
    | .deviceBacked (some .chip) => chipRead s (chipRegister r a)
    | .deviceBacked (some (.external id)) => externalRead s id a

/-- `write8(a, v)` (R67, R64). -/
def write8 (s : State) (a : Word) (v : Byte) : State :=
  match ownerOf s.cfg.regions a with
  | none => s
  | some r =>
    match r.mode with
    | .readWrite => s.setMem (memSet s.mem a.toNat v)
    | .readOnly => s
    | .deviceBacked none => s
    | .deviceBacked (some .chip) => chipWrite s (chipRegister r a) v
    | .deviceBacked (some (.external id)) => externalWrite s id a v

/-- `read16(a)`: high byte first, the second at `a + 1` modulo 65536 (R68). -/
def read16 (s : State) (a : Word) : Word × State :=
  let h := read8 s a
  let l := read8 h.2 (a + 1)
  (join h.1 l.1, l.2)

/-- `write16(a, w)`: high byte first (R69). -/
def write16 (s : State) (a : Word) (w : Word) : State := write8 (write8 s a (hi8 w)) (a + 1) (lo8 w)

/-- `fetch8()` (00_scope.md R18). -/
def fetch8 (s : State) : Byte × State :=
  let r := read8 s s.pc
  (r.1, r.2.setPc (s.pc + 1))

/-- `push8(v)` (10_state.md R33). -/
def push8 (s : State) (v : Byte) : State := (write8 s s.sp v).setSp (s.sp - 1)

/-- `pull8()` (R33). -/
def pull8 (s : State) : Byte × State :=
  let t := s.setSp (s.sp + 1)
  read8 t t.sp

/-- A 16-bit quantity pushed: low byte, then high byte (R33). -/
def push16 (s : State) (w : Word) : State := push8 (push8 s (lo8 w)) (hi8 w)

/-- A 16-bit quantity pulled: high byte, then low byte (R33). -/
def pull16 (s : State) : Word × State :=
  let h := pull8 s
  let l := pull8 h.2
  (join h.1 l.1, l.2)

/-- `push_all()`: PC low, PC high, X low, X high, A, B, CC (44_system_flags_stack.md R288). -/
def pushAll (s : State) : State :=
  push8 (push8 (push8 (push16 (push16 s s.pc) s.x) s.a) s.b) s.flags.pack

/-- `pull_all()`: CC, B, A, X, PC (R289). This is the return from every interrupt (60_exceptions.md R335). -/
def pullAll (s : State) : State :=
  let cc := pull8 s
  let rb := pull8 cc.2
  let ra := pull8 rb.2
  let rx := pull16 ra.2
  let rp := pull16 rx.2
  ((((rp.2.setFlags (Flags.unpack cc.1)).setB rb.1).setA ra.1).setX rx.1).setPc rp.1

/-- TAKING AN INTERRUPT, the entry shared by SWI, NMI and IRQ (R295, 60_exceptions.md R330 to R332, R334): the frame is
pushed when `push` says so, I is set when `mask` says so, and PC is loaded from the vector. NMI and IRQ clear their latches
first; no push and no vector read depends on them. -/
def enterInterrupt (s : State) (push mask : Bool) (vector : Word) : State :=
  let s1 := if push then pushAll s else s
  let s2 := if mask then s1.setFlags { s1.flags with i := true } else s1
  let v := read16 s2 vector
  v.2.setPc v.1

/-- `service_nmi()` (R331): the push is skipped when parked (R330). -/
def serviceNmi (s : State) : State :=
  enterInterrupt ((s.setParked false).setNmiPending false) (!s.parked) s.cfg.nmiSetsI s.cfg.vecNmi

/-- `service_irq()` (R332). -/
def serviceIrq (s : State) : State :=
  enterInterrupt ((s.setParked false).setIrqPending false) (!s.parked) true s.cfg.vecIrq

/-- The registers that the reset sequence sets without a memory access (R322, 10_state.md R50). -/
def resetRegisters (s : State) : State :=
  { s with
    a := s.cfg.resetA
    b := s.cfg.resetB
    x := s.cfg.resetX
    sp := s.cfg.resetSp
    flags := ⟨s.cfg.resetH, true, s.cfg.resetN, s.cfg.resetZ, s.cfg.resetV, s.cfg.resetC⟩
    nmiPending := false
    irqPending := false
    halt := false
    parked := false
    resetPending := false }

/-- `reset_sequence()` (R322). Nothing is pushed; memory and chip are untouched but for the two reads of the vector. -/
def resetSequence (s : State) : State :=
  let v := read16 (resetRegisters s) s.cfg.vecReset
  v.2.setPc v.1

/-- An address has backing bytes (10_state.md R47). -/
def backed (p : Params) (a : Word) : Bool :=
  match ownerOf p.regions a with
  | some r => decide (r.mode = .readWrite) || decide (r.mode = .readOnly)
  | none => false

/-- Place a byte in a backing store, read-only ones included, as the loader does at construction (20_memory.md R64, R84,
70_reset_and_hazards.md R410). An address without backing bytes takes none. -/
def placeByte (s : State) (a : Word) (v : Byte) : State :=
  if backed s.cfg a then s.setMem (memSet s.mem a.toNat v) else s

/-- Place bytes at consecutive addresses. -/
def placeBytes : State → Word → List Byte → State
  | s, _, [] => s
  | s, a, v :: vs => placeBytes (placeByte s a v) (a + 1) vs

/-- Place a list of cells. -/
def placeCells : State → List (Word × Byte) → State
  | s, [] => s
  | s, c :: cs => placeCells (placeByte s c.1 c.2) cs

/-- Construction (20_memory.md R62, R63; 10_state.md R51; R410): the configuration is checked, then the image the host supplies is placed. -/
def construct (p : Params) (image : List (Word × Byte)) : Host.Outcome State Fault Refusal :=
  if regionsValid p.regions then .next (placeCells (State.constructed p) image) else .fault .configurationError

end Sys2Proof.Machine
end

