-- ==== Sys2Proof/Syntax.lean ====
section
/-! DEFINITION. The instructions of spec/opcode_table.json: one constructor for each mnemonic, its argument holding the
addressing form, so that each of the 256 rows is one constructor at one form (log 8). -/

namespace Sys2Proof

/-- The source of an 8-bit accumulator operation (30_encoding.md R103 to R106). -/
inductive Src8 where
  | imm (v : Byte)
  | dir (addr : Byte)
  | idx (off : Byte)
  | ext (addr : Word)
  deriving DecidableEq, Repr

/-- The source of a 16-bit operation: CPX, LDS, LDX (R103 to R106). -/
inductive Src16 where
  | imm (v : Word)
  | dir (addr : Byte)
  | idx (off : Byte)
  | ext (addr : Word)
  deriving DecidableEq, Repr

/-- The destination of a store: there is no immediate form (R103). -/
inductive Dst where
  | dir (addr : Byte)
  | idx (off : Byte)
  | ext (addr : Word)
  deriving DecidableEq, Repr

/-- The operand of the single-operand group on memory, of JMP and of JSR: indexed or extended (R110). -/
inductive Loc where
  | idx (off : Byte)
  | ext (addr : Word)
  deriving DecidableEq, Repr

/-- The operand of ADX: an 8-bit immediate or a 16-bit memory operand (45_mb8861_extension.md R315, R316). -/
inductive AdxSrc where
  | imm (v : Byte)
  | ext (addr : Word)
  deriving DecidableEq, Repr

/-- The instructions. Constructors stand in the order of the section files 40 to 45; `unimpl` carries its opcode byte
(30_encoding.md R108). -/
inductive Instr where
  -- 40_load_store_transfer.md
  | ldaa (o : Src8)
  | ldab (o : Src8)
  | staa (d : Dst)
  | stab (d : Dst)
  | ldx (o : Src16)
  | lds (o : Src16)
  | stx (d : Dst)
  | sts (d : Dst)
  | tab
  | tba
  | tsx
  | txs
  | psha
  | pshb
  | pula
  | pulb
  | clra
  | clrb
  | clr (m : Loc)
  -- 41_arithmetic.md
  | adda (o : Src8)
  | addb (o : Src8)
  | adca (o : Src8)
  | adcb (o : Src8)
  | aba
  | suba (o : Src8)
  | subb (o : Src8)
  | sbca (o : Src8)
  | sbcb (o : Src8)
  | sba
  | cmpa (o : Src8)
  | cmpb (o : Src8)
  | cba
  | daa
  | nega
  | negb
  | neg (m : Loc)
  | inca
  | incb
  | inc (m : Loc)
  | deca
  | decb
  | dec (m : Loc)
  | tsta
  | tstb
  | tst (m : Loc)
  | inx
  | dex
  | ins
  | des
  | cpx (o : Src16)
  -- 42_logic_shift.md
  | anda (o : Src8)
  | andb (o : Src8)
  | oraa (o : Src8)
  | orab (o : Src8)
  | eora (o : Src8)
  | eorb (o : Src8)
  | bita (o : Src8)
  | bitb (o : Src8)
  | coma
  | comb
  | com (m : Loc)
  | asla
  | aslb
  | asl (m : Loc)
  | asra
  | asrb
  | asr (m : Loc)
  | lsra
  | lsrb
  | lsr (m : Loc)
  | rola
  | rolb
  | rol (m : Loc)
  | rora
  | rorb
  | ror (m : Loc)
  -- 43_control_transfer.md
  | bra (rel : Byte)
  | bhi (rel : Byte)
  | bls (rel : Byte)
  | bcc (rel : Byte)
  | bcs (rel : Byte)
  | bne (rel : Byte)
  | beq (rel : Byte)
  | bvc (rel : Byte)
  | bvs (rel : Byte)
  | bpl (rel : Byte)
  | bmi (rel : Byte)
  | bge (rel : Byte)
  | blt (rel : Byte)
  | bgt (rel : Byte)
  | ble (rel : Byte)
  | bsr (rel : Byte)
  | jmp (m : Loc)
  | jsr (m : Loc)
  | rts
  | nop
  -- 44_system_flags_stack.md
  | clc
  | sec
  | clv
  | sev
  | cli
  | sei
  | tap
  | tpa
  | swi
  | rti
  | wai
  -- 45_mb8861_extension.md
  | nim (imm off : Byte)
  | oim (imm off : Byte)
  | xim (imm off : Byte)
  | tmm (imm off : Byte)
  | adx (o : AdxSrc)
  -- 30_encoding.md R108
  | unimpl (op : Byte)
  deriving DecidableEq, Repr

end Sys2Proof
end

