-- ==== Sys2Proof/Machine/Operands.lean ====
section
/-! DEFINITION. Effective addresses and operands of every addressing mode (30_encoding.md R103 to R107,
40_load_store_transfer.md R130), and the shapes that instructions share. -/

namespace Sys2Proof.Machine

/-- Direct mode: the address byte, zero-extended (R104). -/
def eaDir (addr : Byte) : Word := zext16 addr

/-- Indexed mode: X plus the unsigned offset, modulo 65536 (R105). -/
def eaIdx (s : State) (off : Byte) : Word := s.x + zext16 off

/-- The effective address of a store's destination (R104 to R106). -/
def eaDst (s : State) : Dst → Word
  | .dir a => eaDir a
  | .idx n => eaIdx s n
  | .ext a => a

/-- The effective address of a memory operand (R105, R106). -/
def eaLoc (s : State) : Loc → Word
  | .idx n => eaIdx s n
  | .ext a => a

/-- `opnd8()` (R130). -/
def operand8 (s : State) : Src8 → Byte × State
  | .imm v => (v, s)
  | .dir a => read8 s (eaDir a)
  | .idx n => read8 s (eaIdx s n)
  | .ext a => read8 s a

/-- `opnd16()` (R130). -/
def operand16 (s : State) : Src16 → Word × State
  | .imm w => (w, s)
  | .dir a => read16 s (eaDir a)
  | .idx n => read16 s (eaIdx s n)
  | .ext a => read16 s a

/-- The addend of ADX (45_mb8861_extension.md R315, R316). -/
def operandAdx (s : State) : AdxSrc → Word × State
  | .imm v => (zext16 v, s)
  | .ext a => read16 s a

/-- An accumulator A operation with an 8-bit operand. -/
def onA (s : State) (o : Src8) (f : Byte → Byte → Flags → Byte × Flags) : State :=
  let m := operand8 s o
  let r := f s.a m.1 s.flags
  (m.2.setA r.1).setFlags r.2

/-- An accumulator B operation with an 8-bit operand. -/
def onB (s : State) (o : Src8) (f : Byte → Byte → Flags → Byte × Flags) : State :=
  let m := operand8 s o
  let r := f s.b m.1 s.flags
  (m.2.setB r.1).setFlags r.2

/-- A comparison of a byte with an 8-bit operand: only the flags are written. -/
def compareWith (s : State) (acc : Byte) (o : Src8) (f : Byte → Byte → Flags → Flags) : State :=
  let m := operand8 s o
  m.2.setFlags (f acc m.1 s.flags)

/-- A one-operand operation on A. -/
def unaryA (s : State) (f : Byte → Flags → Byte × Flags) : State :=
  let r := f s.a s.flags
  (s.setA r.1).setFlags r.2

/-- A one-operand operation on B. -/
def unaryB (s : State) (f : Byte → Flags → Byte × Flags) : State :=
  let r := f s.b s.flags
  (s.setB r.1).setFlags r.2

/-- A read-modify-write of the byte at an address: one read, then one write of the same address (20_memory.md R73). -/
def readModifyWrite (s : State) (ea : Word) (f : Byte → Flags → Byte × Flags) : State :=
  let m := read8 s ea
  let r := f m.1 s.flags
  (write8 m.2 ea r.1).setFlags r.2

/-- A relative branch on a condition; PC is already past the instruction (43_control_transfer.md R240). -/
def branchIf (s : State) (cond : Bool) (rel : Byte) : State :=
  if cond then s.setPc (s.pc + sext16 rel) else s

/-- A call: the return address, which PC holds, is pushed, then PC is the target (R256, R258). -/
def callTo (s : State) (target : Word) : State := (push16 s s.pc).setPc target

end Sys2Proof.Machine
end

