-- ==== Sys2Proof/Machine/Arithmetic.lean ====
section
/-! DEFINITION. Integer arithmetic, compare, test, decimal adjust, 16-bit counting (41_arithmetic.md). -/

namespace Sys2Proof.Machine

/-- ADDA (R173). -/
def execAdda (o : Src8) (s : State) : Host.Outcome State Fault Refusal :=
  .next (onA s o (fun acc m f => add8 acc m false f))

/-- ADDB (R174). -/
def execAddb (o : Src8) (s : State) : Host.Outcome State Fault Refusal :=
  .next (onB s o (fun acc m f => add8 acc m false f))

/-- ADCA (R175). -/
def execAdca (o : Src8) (s : State) : Host.Outcome State Fault Refusal :=
  .next (onA s o (fun acc m f => add8 acc m f.c f))

/-- ADCB (R176). -/
def execAdcb (o : Src8) (s : State) : Host.Outcome State Fault Refusal :=
  .next (onB s o (fun acc m f => add8 acc m f.c f))

/-- ABA (R177): B unchanged. -/
def execAba (s : State) : Host.Outcome State Fault Refusal := .next (unaryA s (fun a f => add8 a s.b false f))

/-- SUBA (R178). -/
def execSuba (o : Src8) (s : State) : Host.Outcome State Fault Refusal :=
  .next (onA s o (fun acc m f => sub8 acc m false f))

/-- SUBB (R179). -/
def execSubb (o : Src8) (s : State) : Host.Outcome State Fault Refusal :=
  .next (onB s o (fun acc m f => sub8 acc m false f))

/-- SBCA (R180). -/
def execSbca (o : Src8) (s : State) : Host.Outcome State Fault Refusal :=
  .next (onA s o (fun acc m f => sub8 acc m f.c f))

/-- SBCB (R181). -/
def execSbcb (o : Src8) (s : State) : Host.Outcome State Fault Refusal :=
  .next (onB s o (fun acc m f => sub8 acc m f.c f))

/-- SBA (R182): B unchanged. -/
def execSba (s : State) : Host.Outcome State Fault Refusal := .next (unaryA s (fun a f => sub8 a s.b false f))

/-- CMPA (R183): the result is discarded. -/
def execCmpa (o : Src8) (s : State) : Host.Outcome State Fault Refusal :=
  .next (compareWith s s.a o (fun acc m f => (sub8 acc m false f).2))

/-- CMPB (R184): the result is discarded. -/
def execCmpb (o : Src8) (s : State) : Host.Outcome State Fault Refusal :=
  .next (compareWith s s.b o (fun acc m f => (sub8 acc m false f).2))

/-- CBA (R185): A and B unchanged. -/
def execCba (s : State) : Host.Outcome State Fault Refusal := .next (s.setFlags (sub8 s.a s.b false s.flags).2)

/-- DAA (R186). V is unspecified after it: the next free value (U1, log 7). -/
def execDaa (s : State) : Host.Outcome State Fault Refusal :=
  .next ((unaryA s (fun a f => daa8 a (Config.daaOverflow s.free) f)).setFree (s.free + 1))

/-- NEGA (R188). -/
def execNega (s : State) : Host.Outcome State Fault Refusal := .next (unaryA s neg8)

/-- NEGB (R189). -/
def execNegb (s : State) : Host.Outcome State Fault Refusal := .next (unaryB s neg8)

/-- NEG, memory byte (R190). -/
def execNeg (m : Loc) (s : State) : Host.Outcome State Fault Refusal := .next (readModifyWrite s (eaLoc s m) neg8)

/-- INCA (R192). -/
def execInca (s : State) : Host.Outcome State Fault Refusal := .next (unaryA s inc8)

/-- INCB (R193). -/
def execIncb (s : State) : Host.Outcome State Fault Refusal := .next (unaryB s inc8)

/-- INC, memory byte (R194). -/
def execInc (m : Loc) (s : State) : Host.Outcome State Fault Refusal := .next (readModifyWrite s (eaLoc s m) inc8)

/-- DECA (R196). -/
def execDeca (s : State) : Host.Outcome State Fault Refusal := .next (unaryA s dec8)

/-- DECB (R197). -/
def execDecb (s : State) : Host.Outcome State Fault Refusal := .next (unaryB s dec8)

/-- DEC, memory byte (R198). -/
def execDec (m : Loc) (s : State) : Host.Outcome State Fault Refusal := .next (readModifyWrite s (eaLoc s m) dec8)

/-- TSTA (R199). -/
def execTsta (s : State) : Host.Outcome State Fault Refusal := .next (s.setFlags (tst8 s.a s.flags))

/-- TSTB (R200). -/
def execTstb (s : State) : Host.Outcome State Fault Refusal := .next (s.setFlags (tst8 s.b s.flags))

/-- TST, memory byte (R201): one read, no write. -/
def execTst (m : Loc) (s : State) : Host.Outcome State Fault Refusal :=
  let r := read8 s (eaLoc s m)
  .next (r.2.setFlags (tst8 r.1 s.flags))

/-- INX (R202): Z only. -/
def execInx (s : State) : Host.Outcome State Fault Refusal :=
  .next ((s.setX (s.x + 1)).setFlags { s.flags with z := s.x + 1 == 0 })

/-- DEX (R203): Z only. -/
def execDex (s : State) : Host.Outcome State Fault Refusal :=
  .next ((s.setX (s.x - 1)).setFlags { s.flags with z := s.x - 1 == 0 })

/-- INS (R204): no flags. -/
def execIns (s : State) : Host.Outcome State Fault Refusal := .next (s.setSp (s.sp + 1))

/-- DES (R205): no flags. -/
def execDes (s : State) : Host.Outcome State Fault Refusal := .next (s.setSp (s.sp - 1))

/-- CPX (R206): X unchanged. -/
def execCpx (o : Src16) (s : State) : Host.Outcome State Fault Refusal :=
  let w := operand16 s o
  .next (w.2.setFlags (cpxFlags s.x w.1 s.flags))

end Sys2Proof.Machine
end

