-- ==== Sys2Proof/Machine/Control.lean ====
section
/-! DEFINITION. Branches, jumps, calls, returns, no-operation (43_control_transfer.md) and unimplemented opcodes (30_encoding.md R108). -/

namespace Sys2Proof.Machine

/-- BRA (R241). -/
def execBra (rel : Byte) (s : State) : Host.Outcome State Fault Refusal := .next (branchIf s true rel)

/-- BHI (R242). -/
def execBhi (rel : Byte) (s : State) : Host.Outcome State Fault Refusal :=
  .next (branchIf s (!s.flags.c && !s.flags.z) rel)

/-- BLS (R243). -/
def execBls (rel : Byte) (s : State) : Host.Outcome State Fault Refusal :=
  .next (branchIf s (s.flags.c || s.flags.z) rel)

/-- BCC (R244). -/
def execBcc (rel : Byte) (s : State) : Host.Outcome State Fault Refusal := .next (branchIf s (!s.flags.c) rel)

/-- BCS (R245). -/
def execBcs (rel : Byte) (s : State) : Host.Outcome State Fault Refusal := .next (branchIf s (s.flags.c) rel)

/-- BNE (R246). -/
def execBne (rel : Byte) (s : State) : Host.Outcome State Fault Refusal := .next (branchIf s (!s.flags.z) rel)

/-- BEQ (R247). -/
def execBeq (rel : Byte) (s : State) : Host.Outcome State Fault Refusal := .next (branchIf s (s.flags.z) rel)

/-- BVC (R248). -/
def execBvc (rel : Byte) (s : State) : Host.Outcome State Fault Refusal := .next (branchIf s (!s.flags.v) rel)

/-- BVS (R249). -/
def execBvs (rel : Byte) (s : State) : Host.Outcome State Fault Refusal := .next (branchIf s (s.flags.v) rel)

/-- BPL (R250). -/
def execBpl (rel : Byte) (s : State) : Host.Outcome State Fault Refusal := .next (branchIf s (!s.flags.n) rel)

/-- BMI (R251). -/
def execBmi (rel : Byte) (s : State) : Host.Outcome State Fault Refusal := .next (branchIf s (s.flags.n) rel)

/-- BGE (R252). -/
def execBge (rel : Byte) (s : State) : Host.Outcome State Fault Refusal :=
  .next (branchIf s (!(s.flags.n ^^ s.flags.v)) rel)

/-- BLT (R253). -/
def execBlt (rel : Byte) (s : State) : Host.Outcome State Fault Refusal :=
  .next (branchIf s (s.flags.n ^^ s.flags.v) rel)

/-- BGT (R254). -/
def execBgt (rel : Byte) (s : State) : Host.Outcome State Fault Refusal :=
  .next (branchIf s (!s.flags.z && !(s.flags.n ^^ s.flags.v)) rel)

/-- BLE (R255). -/
def execBle (rel : Byte) (s : State) : Host.Outcome State Fault Refusal :=
  .next (branchIf s (s.flags.z || (s.flags.n ^^ s.flags.v)) rel)

/-- BSR (R256). -/
def execBsr (rel : Byte) (s : State) : Host.Outcome State Fault Refusal := .next (callTo s (s.pc + sext16 rel))

/-- JMP (R257): to the effective address itself. -/
def execJmp (m : Loc) (s : State) : Host.Outcome State Fault Refusal := .next (s.setPc (eaLoc s m))

/-- JSR (R258). -/
def execJsr (m : Loc) (s : State) : Host.Outcome State Fault Refusal := .next (callTo s (eaLoc s m))

/-- RTS (R259). -/
def execRts (s : State) : Host.Outcome State Fault Refusal :=
  let p := pull16 s
  .next (p.2.setPc p.1)

/-- NOP (R260). -/
def execNop (s : State) : Host.Outcome State Fault Refusal := .next s

/-- An unimplemented opcode (30_encoding.md R108, C7): nothing beyond the fetch, which advanced PC. -/
def execUnimpl (_op : Byte) (s : State) : Host.Outcome State Fault Refusal := .next s

end Sys2Proof.Machine
end

