-- ==== Sys2Proof/Machine/Extension.lean ====
section
/-! DEFINITION. The MB8861 extension (45_mb8861_extension.md). -/

namespace Sys2Proof.Machine

/-- NIM (R311). -/
def execNim (imm off : Byte) (s : State) : Host.Outcome State Fault Refusal :=
  .next (readModifyWrite s (eaIdx s off) (fun m f => (imm &&& m, nimFlags s.cfg.extFlags (imm &&& m) f)))

/-- OIM (R312). -/
def execOim (imm off : Byte) (s : State) : Host.Outcome State Fault Refusal :=
  .next (readModifyWrite s (eaIdx s off) (fun m f => (imm ||| m, oimFlags s.cfg.extFlags (imm ||| m) f)))

/-- XIM (R313). -/
def execXim (imm off : Byte) (s : State) : Host.Outcome State Fault Refusal :=
  .next (readModifyWrite s (eaIdx s off) (fun m f => (imm ^^^ m, ximFlags s.cfg.extFlags (imm ^^^ m) f)))

/-- TMM (R314): no write. -/
def execTmm (imm off : Byte) (s : State) : Host.Outcome State Fault Refusal :=
  let r := read8 s (eaIdx s off)
  .next (r.2.setFlags (tmmFlags s.cfg.extFlags imm r.1 s.flags))

/-- ADX (R315, R316). -/
def execAdx (o : AdxSrc) (s : State) : Host.Outcome State Fault Refusal :=
  let w := operandAdx s o
  let r := add16 s.x w.1 s.flags
  .next ((w.2.setX r.1).setFlags r.2)

end Sys2Proof.Machine
end

