-- ==== Sys2Proof/WellFormed.lean ====
section
/-! DEFINITION. Which terms of `Instr` stand for a row of the decode table (30_encoding.md R108, R112; 00_scope.md R13). -/

namespace Sys2Proof

/-- The 53 bytes that are unimplemented whatever `EXT_MB8861` is (30_encoding.md R112). -/
def unimplementedBytes : List Byte :=
  [0x00, 0x02, 0x03, 0x04, 0x05, 0x12, 0x13, 0x14, 0x15, 0x18, 0x1A, 0x1C, 0x1D, 0x1E, 0x1F] ++
  [0x21, 0x38, 0x3A, 0x3C, 0x3D, 0x41, 0x42, 0x45, 0x4B, 0x4E, 0x51, 0x52, 0x55, 0x5B, 0x5E] ++
  [0x61, 0x62, 0x65, 0x6B, 0x83, 0x87, 0x8F, 0x93, 0x9D, 0xA3, 0xB3, 0xC3, 0xC7, 0xCC, 0xCD] ++
  [0xCF, 0xD3, 0xDC, 0xDD, 0xE3, 0xED, 0xF3, 0xFD]

/-- The six extension bytes, unimplemented when `EXT_MB8861 = false` (R112, R13). -/
def extensionBytes : List Byte := [0x71, 0x72, 0x75, 0x7B, 0xEC, 0xFC]

/-- The five extension instructions (45_mb8861_extension.md). -/
def Instr.isExtension : Instr → Bool
  | .nim _ _ | .oim _ _ | .xim _ _ | .tmm _ _ | .adx _ => true
  | _ => false

/-- Well-formedness under `EXT_MB8861 = ext`. Operand forms are enforced by the operand types. Two checks remain: an
extension instruction needs `ext`, and `unimpl` may carry only a byte that has no row. -/
def Instr.wellFormed (ext : Bool) (i : Instr) : Bool :=
  match i with
  | .unimpl op => unimplementedBytes.contains op || (!ext && extensionBytes.contains op)
  | i => !i.isExtension || ext

end Sys2Proof
end

