-- ==== Sys2Proof/Decode.lean ====
section
/-! DEFINITION. The decode table as a total function (30_encoding.md R109, R111), then the encoder, written from the
"Encoding:" line of each instruction's rule. -/

namespace Sys2Proof

/-- Opcode bytes 0x00 to 0x0F, by low nibble (R111). -/
def decodeRow0 : Nat → Instr
  | 0 => .unimpl 0x00
  | 1 => .nop
  | 2 => .unimpl 0x02
  | 3 => .unimpl 0x03
  | 4 => .unimpl 0x04
  | 5 => .unimpl 0x05
  | 6 => .tap
  | 7 => .tpa
  | 8 => .inx
  | 9 => .dex
  | 10 => .clv
  | 11 => .sev
  | 12 => .clc
  | 13 => .sec
  | 14 => .cli
  | _ => .sei

/-- Opcode bytes 0x10 to 0x1F, by low nibble (R111). -/
def decodeRow1 : Nat → Instr
  | 0 => .sba
  | 1 => .cba
  | 2 => .unimpl 0x12
  | 3 => .unimpl 0x13
  | 4 => .unimpl 0x14
  | 5 => .unimpl 0x15
  | 6 => .tab
  | 7 => .tba
  | 8 => .unimpl 0x18
  | 9 => .daa
  | 10 => .unimpl 0x1A
  | 11 => .aba
  | 12 => .unimpl 0x1C
  | 13 => .unimpl 0x1D
  | 14 => .unimpl 0x1E
  | _ => .unimpl 0x1F

/-- Opcode bytes 0x20 to 0x2F, by low nibble (R111). -/
def decodeRow2 (b1 : Byte) : Nat → Instr
  | 0 => .bra b1
  | 1 => .unimpl 0x21
  | 2 => .bhi b1
  | 3 => .bls b1
  | 4 => .bcc b1
  | 5 => .bcs b1
  | 6 => .bne b1
  | 7 => .beq b1
  | 8 => .bvc b1
  | 9 => .bvs b1
  | 10 => .bpl b1
  | 11 => .bmi b1
  | 12 => .bge b1
  | 13 => .blt b1
  | 14 => .bgt b1
  | _ => .ble b1

/-- Opcode bytes 0x30 to 0x3F, by low nibble (R111). -/
def decodeRow3 : Nat → Instr
  | 0 => .tsx
  | 1 => .ins
  | 2 => .pula
  | 3 => .pulb
  | 4 => .des
  | 5 => .txs
  | 6 => .psha
  | 7 => .pshb
  | 8 => .unimpl 0x38
  | 9 => .rts
  | 10 => .unimpl 0x3A
  | 11 => .rti
  | 12 => .unimpl 0x3C
  | 13 => .unimpl 0x3D
  | 14 => .wai
  | _ => .swi

/-- Opcode bytes 0x40 to 0x4F, by low nibble (R111). -/
def decodeRow4 : Nat → Instr
  | 0 => .nega
  | 1 => .unimpl 0x41
  | 2 => .unimpl 0x42
  | 3 => .coma
  | 4 => .lsra
  | 5 => .unimpl 0x45
  | 6 => .rora
  | 7 => .asra
  | 8 => .asla
  | 9 => .rola
  | 10 => .deca
  | 11 => .unimpl 0x4B
  | 12 => .inca
  | 13 => .tsta
  | 14 => .unimpl 0x4E
  | _ => .clra

/-- Opcode bytes 0x50 to 0x5F, by low nibble (R111). -/
def decodeRow5 : Nat → Instr
  | 0 => .negb
  | 1 => .unimpl 0x51
  | 2 => .unimpl 0x52
  | 3 => .comb
  | 4 => .lsrb
  | 5 => .unimpl 0x55
  | 6 => .rorb
  | 7 => .asrb
  | 8 => .aslb
  | 9 => .rolb
  | 10 => .decb
  | 11 => .unimpl 0x5B
  | 12 => .incb
  | 13 => .tstb
  | 14 => .unimpl 0x5E
  | _ => .clrb

/-- Opcode bytes 0x60 to 0x6F, by low nibble (R111). -/
def decodeRow6 (b1 : Byte) : Nat → Instr
  | 0 => .neg (.idx b1)
  | 1 => .unimpl 0x61
  | 2 => .unimpl 0x62
  | 3 => .com (.idx b1)
  | 4 => .lsr (.idx b1)
  | 5 => .unimpl 0x65
  | 6 => .ror (.idx b1)
  | 7 => .asr (.idx b1)
  | 8 => .asl (.idx b1)
  | 9 => .rol (.idx b1)
  | 10 => .dec (.idx b1)
  | 11 => .unimpl 0x6B
  | 12 => .inc (.idx b1)
  | 13 => .tst (.idx b1)
  | 14 => .jmp (.idx b1)
  | _ => .clr (.idx b1)

/-- Opcode bytes 0x70 to 0x7F, by low nibble (R111). -/
def decodeRow7 (b1 b2 : Byte) : Nat → Instr
  | 0 => .neg (.ext (join b1 b2))
  | 1 => .nim b1 b2
  | 2 => .oim b1 b2
  | 3 => .com (.ext (join b1 b2))
  | 4 => .lsr (.ext (join b1 b2))
  | 5 => .xim b1 b2
  | 6 => .ror (.ext (join b1 b2))
  | 7 => .asr (.ext (join b1 b2))
  | 8 => .asl (.ext (join b1 b2))
  | 9 => .rol (.ext (join b1 b2))
  | 10 => .dec (.ext (join b1 b2))
  | 11 => .tmm b1 b2
  | 12 => .inc (.ext (join b1 b2))
  | 13 => .tst (.ext (join b1 b2))
  | 14 => .jmp (.ext (join b1 b2))
  | _ => .clr (.ext (join b1 b2))

/-- Opcode bytes 0x80 to 0x8F, by low nibble (R111). -/
def decodeRow8 (b1 b2 : Byte) : Nat → Instr
  | 0 => .suba (.imm b1)
  | 1 => .cmpa (.imm b1)
  | 2 => .sbca (.imm b1)
  | 3 => .unimpl 0x83
  | 4 => .anda (.imm b1)
  | 5 => .bita (.imm b1)
  | 6 => .ldaa (.imm b1)
  | 7 => .unimpl 0x87
  | 8 => .eora (.imm b1)
  | 9 => .adca (.imm b1)
  | 10 => .oraa (.imm b1)
  | 11 => .adda (.imm b1)
  | 12 => .cpx (.imm (join b1 b2))
  | 13 => .bsr b1
  | 14 => .lds (.imm (join b1 b2))
  | _ => .unimpl 0x8F

/-- Opcode bytes 0x90 to 0x9F, by low nibble (R111). -/
def decodeRow9 (b1 : Byte) : Nat → Instr
  | 0 => .suba (.dir b1)
  | 1 => .cmpa (.dir b1)
  | 2 => .sbca (.dir b1)
  | 3 => .unimpl 0x93
  | 4 => .anda (.dir b1)
  | 5 => .bita (.dir b1)
  | 6 => .ldaa (.dir b1)
  | 7 => .staa (.dir b1)
  | 8 => .eora (.dir b1)
  | 9 => .adca (.dir b1)
  | 10 => .oraa (.dir b1)
  | 11 => .adda (.dir b1)
  | 12 => .cpx (.dir b1)
  | 13 => .unimpl 0x9D
  | 14 => .lds (.dir b1)
  | _ => .sts (.dir b1)

/-- Opcode bytes 0xA0 to 0xAF, by low nibble (R111). -/
def decodeRowA (b1 : Byte) : Nat → Instr
  | 0 => .suba (.idx b1)
  | 1 => .cmpa (.idx b1)
  | 2 => .sbca (.idx b1)
  | 3 => .unimpl 0xA3
  | 4 => .anda (.idx b1)
  | 5 => .bita (.idx b1)
  | 6 => .ldaa (.idx b1)
  | 7 => .staa (.idx b1)
  | 8 => .eora (.idx b1)
  | 9 => .adca (.idx b1)
  | 10 => .oraa (.idx b1)
  | 11 => .adda (.idx b1)
  | 12 => .cpx (.idx b1)
  | 13 => .jsr (.idx b1)
  | 14 => .lds (.idx b1)
  | _ => .sts (.idx b1)

/-- Opcode bytes 0xB0 to 0xBF, by low nibble (R111). -/
def decodeRowB (b1 b2 : Byte) : Nat → Instr
  | 0 => .suba (.ext (join b1 b2))
  | 1 => .cmpa (.ext (join b1 b2))
  | 2 => .sbca (.ext (join b1 b2))
  | 3 => .unimpl 0xB3
  | 4 => .anda (.ext (join b1 b2))
  | 5 => .bita (.ext (join b1 b2))
  | 6 => .ldaa (.ext (join b1 b2))
  | 7 => .staa (.ext (join b1 b2))
  | 8 => .eora (.ext (join b1 b2))
  | 9 => .adca (.ext (join b1 b2))
  | 10 => .oraa (.ext (join b1 b2))
  | 11 => .adda (.ext (join b1 b2))
  | 12 => .cpx (.ext (join b1 b2))
  | 13 => .jsr (.ext (join b1 b2))
  | 14 => .lds (.ext (join b1 b2))
  | _ => .sts (.ext (join b1 b2))

/-- Opcode bytes 0xC0 to 0xCF, by low nibble (R111). -/
def decodeRowC (b1 b2 : Byte) : Nat → Instr
  | 0 => .subb (.imm b1)
  | 1 => .cmpb (.imm b1)
  | 2 => .sbcb (.imm b1)
  | 3 => .unimpl 0xC3
  | 4 => .andb (.imm b1)
  | 5 => .bitb (.imm b1)
  | 6 => .ldab (.imm b1)
  | 7 => .unimpl 0xC7
  | 8 => .eorb (.imm b1)
  | 9 => .adcb (.imm b1)
  | 10 => .orab (.imm b1)
  | 11 => .addb (.imm b1)
  | 12 => .unimpl 0xCC
  | 13 => .unimpl 0xCD
  | 14 => .ldx (.imm (join b1 b2))
  | _ => .unimpl 0xCF

/-- Opcode bytes 0xD0 to 0xDF, by low nibble (R111). -/
def decodeRowD (b1 : Byte) : Nat → Instr
  | 0 => .subb (.dir b1)
  | 1 => .cmpb (.dir b1)
  | 2 => .sbcb (.dir b1)
  | 3 => .unimpl 0xD3
  | 4 => .andb (.dir b1)
  | 5 => .bitb (.dir b1)
  | 6 => .ldab (.dir b1)
  | 7 => .stab (.dir b1)
  | 8 => .eorb (.dir b1)
  | 9 => .adcb (.dir b1)
  | 10 => .orab (.dir b1)
  | 11 => .addb (.dir b1)
  | 12 => .unimpl 0xDC
  | 13 => .unimpl 0xDD
  | 14 => .ldx (.dir b1)
  | _ => .stx (.dir b1)

/-- Opcode bytes 0xE0 to 0xEF, by low nibble (R111). -/
def decodeRowE (b1 : Byte) : Nat → Instr
  | 0 => .subb (.idx b1)
  | 1 => .cmpb (.idx b1)
  | 2 => .sbcb (.idx b1)
  | 3 => .unimpl 0xE3
  | 4 => .andb (.idx b1)
  | 5 => .bitb (.idx b1)
  | 6 => .ldab (.idx b1)
  | 7 => .stab (.idx b1)
  | 8 => .eorb (.idx b1)
  | 9 => .adcb (.idx b1)
  | 10 => .orab (.idx b1)
  | 11 => .addb (.idx b1)
  | 12 => .adx (.imm b1)
  | 13 => .unimpl 0xED
  | 14 => .ldx (.idx b1)
  | _ => .stx (.idx b1)

/-- Opcode bytes 0xF0 to 0xFF, by low nibble (R111). -/
def decodeRowF (b1 b2 : Byte) : Nat → Instr
  | 0 => .subb (.ext (join b1 b2))
  | 1 => .cmpb (.ext (join b1 b2))
  | 2 => .sbcb (.ext (join b1 b2))
  | 3 => .unimpl 0xF3
  | 4 => .andb (.ext (join b1 b2))
  | 5 => .bitb (.ext (join b1 b2))
  | 6 => .ldab (.ext (join b1 b2))
  | 7 => .stab (.ext (join b1 b2))
  | 8 => .eorb (.ext (join b1 b2))
  | 9 => .adcb (.ext (join b1 b2))
  | 10 => .orab (.ext (join b1 b2))
  | 11 => .addb (.ext (join b1 b2))
  | 12 => .adx (.ext (join b1 b2))
  | 13 => .unimpl 0xFD
  | 14 => .ldx (.ext (join b1 b2))
  | _ => .stx (.ext (join b1 b2))

/-- The grid of 30_encoding.md R111: the row of an opcode byte with its operand bytes filled in. Formats with fewer than
two operand bytes ignore the rest (R101); a two-byte operand is `byte1 ## byte2` (R102). -/
def decodeGrid (op b1 b2 : Byte) : Instr :=
  match op.toNat / 16 with
  | 0 => decodeRow0 (op.toNat % 16)
  | 1 => decodeRow1 (op.toNat % 16)
  | 2 => decodeRow2 b1 (op.toNat % 16)
  | 3 => decodeRow3 (op.toNat % 16)
  | 4 => decodeRow4 (op.toNat % 16)
  | 5 => decodeRow5 (op.toNat % 16)
  | 6 => decodeRow6 b1 (op.toNat % 16)
  | 7 => decodeRow7 b1 b2 (op.toNat % 16)
  | 8 => decodeRow8 b1 b2 (op.toNat % 16)
  | 9 => decodeRow9 b1 (op.toNat % 16)
  | 10 => decodeRowA b1 (op.toNat % 16)
  | 11 => decodeRowB b1 b2 (op.toNat % 16)
  | 12 => decodeRowC b1 b2 (op.toNat % 16)
  | 13 => decodeRowD b1 (op.toNat % 16)
  | 14 => decodeRowE b1 (op.toNat % 16)
  | _ => decodeRowF b1 b2 (op.toNat % 16)

/-- Decoding is total (R109): a byte with no row is unimplemented (R108), and so are the six extension bytes when
`EXT_MB8861 = false` (R112). -/
def decodeOp (ext : Bool) (op b1 b2 : Byte) : Instr :=
  if !ext && (decodeGrid op b1 b2).isExtension then .unimpl op else decodeGrid op b1 b2

/-- The byte of the form a source has. -/
def Src8.pick (o : Src8) (imm dir idx ext : Byte) : Byte :=
  match o with
  | .imm _ => imm
  | .dir _ => dir
  | .idx _ => idx
  | .ext _ => ext

/-- The byte of the form a source has. -/
def Src16.pick (o : Src16) (imm dir idx ext : Byte) : Byte :=
  match o with
  | .imm _ => imm
  | .dir _ => dir
  | .idx _ => idx
  | .ext _ => ext

/-- The byte of the form a destination has. -/
def Dst.pick (d : Dst) (dir idx ext : Byte) : Byte :=
  match d with
  | .dir _ => dir
  | .idx _ => idx
  | .ext _ => ext

/-- The byte of the form an operand has. -/
def Loc.pick (m : Loc) (idx ext : Byte) : Byte :=
  match m with
  | .idx _ => idx
  | .ext _ => ext

/-- The byte of the form an ADX operand has. -/
def AdxSrc.pick (o : AdxSrc) (imm ext : Byte) : Byte :=
  match o with
  | .imm _ => imm
  | .ext _ => ext

/-- Operand bytes in address order, high byte first (R101, R102). -/
def Src8.bytes : Src8 → List Byte
  | .imm v => [v]
  | .dir a => [a]
  | .idx n => [n]
  | .ext a => [hi8 a, lo8 a]

/-- Operand bytes in address order, high byte first (R101, R102). -/
def Src16.bytes : Src16 → List Byte
  | .imm w => [hi8 w, lo8 w]
  | .dir a => [a]
  | .idx n => [n]
  | .ext a => [hi8 a, lo8 a]

/-- Operand bytes in address order, high byte first (R101, R102). -/
def Dst.bytes : Dst → List Byte
  | .dir a => [a]
  | .idx n => [n]
  | .ext a => [hi8 a, lo8 a]

/-- Operand bytes in address order, high byte first (R101, R102). -/
def Loc.bytes : Loc → List Byte
  | .idx n => [n]
  | .ext a => [hi8 a, lo8 a]

/-- Operand bytes in address order, high byte first (R101, R102). -/
def AdxSrc.bytes : AdxSrc → List Byte
  | .imm v => [v]
  | .ext a => [hi8 a, lo8 a]

/-- The opcode byte of an instruction: the "Encoding:" line of its rule in files 40 to 45. -/
def Instr.opcode : Instr → Byte
  | .ldaa o => o.pick 0x86 0x96 0xA6 0xB6
  | .ldab o => o.pick 0xC6 0xD6 0xE6 0xF6
  | .staa d => d.pick 0x97 0xA7 0xB7
  | .stab d => d.pick 0xD7 0xE7 0xF7
  | .ldx o => o.pick 0xCE 0xDE 0xEE 0xFE
  | .lds o => o.pick 0x8E 0x9E 0xAE 0xBE
  | .stx d => d.pick 0xDF 0xEF 0xFF
  | .sts d => d.pick 0x9F 0xAF 0xBF
  | .tab => 0x16
  | .tba => 0x17
  | .tsx => 0x30
  | .txs => 0x35
  | .psha => 0x36
  | .pshb => 0x37
  | .pula => 0x32
  | .pulb => 0x33
  | .clra => 0x4F
  | .clrb => 0x5F
  | .clr m => m.pick 0x6F 0x7F
  | .adda o => o.pick 0x8B 0x9B 0xAB 0xBB
  | .addb o => o.pick 0xCB 0xDB 0xEB 0xFB
  | .adca o => o.pick 0x89 0x99 0xA9 0xB9
  | .adcb o => o.pick 0xC9 0xD9 0xE9 0xF9
  | .aba => 0x1B
  | .suba o => o.pick 0x80 0x90 0xA0 0xB0
  | .subb o => o.pick 0xC0 0xD0 0xE0 0xF0
  | .sbca o => o.pick 0x82 0x92 0xA2 0xB2
  | .sbcb o => o.pick 0xC2 0xD2 0xE2 0xF2
  | .sba => 0x10
  | .cmpa o => o.pick 0x81 0x91 0xA1 0xB1
  | .cmpb o => o.pick 0xC1 0xD1 0xE1 0xF1
  | .cba => 0x11
  | .daa => 0x19
  | .nega => 0x40
  | .negb => 0x50
  | .neg m => m.pick 0x60 0x70
  | .inca => 0x4C
  | .incb => 0x5C
  | .inc m => m.pick 0x6C 0x7C
  | .deca => 0x4A
  | .decb => 0x5A
  | .dec m => m.pick 0x6A 0x7A
  | .tsta => 0x4D
  | .tstb => 0x5D
  | .tst m => m.pick 0x6D 0x7D
  | .inx => 0x08
  | .dex => 0x09
  | .ins => 0x31
  | .des => 0x34
  | .cpx o => o.pick 0x8C 0x9C 0xAC 0xBC
  | .anda o => o.pick 0x84 0x94 0xA4 0xB4
  | .andb o => o.pick 0xC4 0xD4 0xE4 0xF4
  | .oraa o => o.pick 0x8A 0x9A 0xAA 0xBA
  | .orab o => o.pick 0xCA 0xDA 0xEA 0xFA
  | .eora o => o.pick 0x88 0x98 0xA8 0xB8
  | .eorb o => o.pick 0xC8 0xD8 0xE8 0xF8
  | .bita o => o.pick 0x85 0x95 0xA5 0xB5
  | .bitb o => o.pick 0xC5 0xD5 0xE5 0xF5
  | .coma => 0x43
  | .comb => 0x53
  | .com m => m.pick 0x63 0x73
  | .asla => 0x48
  | .aslb => 0x58
  | .asl m => m.pick 0x68 0x78
  | .asra => 0x47
  | .asrb => 0x57
  | .asr m => m.pick 0x67 0x77
  | .lsra => 0x44
  | .lsrb => 0x54
  | .lsr m => m.pick 0x64 0x74
  | .rola => 0x49
  | .rolb => 0x59
  | .rol m => m.pick 0x69 0x79
  | .rora => 0x46
  | .rorb => 0x56
  | .ror m => m.pick 0x66 0x76
  | .bra _ => 0x20
  | .bhi _ => 0x22
  | .bls _ => 0x23
  | .bcc _ => 0x24
  | .bcs _ => 0x25
  | .bne _ => 0x26
  | .beq _ => 0x27
  | .bvc _ => 0x28
  | .bvs _ => 0x29
  | .bpl _ => 0x2A
  | .bmi _ => 0x2B
  | .bge _ => 0x2C
  | .blt _ => 0x2D
  | .bgt _ => 0x2E
  | .ble _ => 0x2F
  | .bsr _ => 0x8D
  | .jmp m => m.pick 0x6E 0x7E
  | .jsr m => m.pick 0xAD 0xBD
  | .rts => 0x39
  | .nop => 0x01
  | .clc => 0x0C
  | .sec => 0x0D
  | .clv => 0x0A
  | .sev => 0x0B
  | .cli => 0x0E
  | .sei => 0x0F
  | .tap => 0x06
  | .tpa => 0x07
  | .swi => 0x3F
  | .rti => 0x3B
  | .wai => 0x3E
  | .nim _ _ => 0x71
  | .oim _ _ => 0x72
  | .xim _ _ => 0x75
  | .tmm _ _ => 0x7B
  | .adx o => o.pick 0xEC 0xFC
  | .unimpl op => op

/-- The operand bytes of an instruction (R101). -/
def Instr.operandBytes : Instr → List Byte
  | .ldaa o | .ldab o | .adda o | .addb o | .adca o | .adcb o | .suba o | .subb o | .sbca o | .sbcb o | .cmpa o
  | .cmpb o | .anda o | .andb o | .oraa o | .orab o | .eora o | .eorb o | .bita o | .bitb o =>
      o.bytes
  | .staa o | .stab o | .stx o | .sts o =>
      o.bytes
  | .ldx o | .lds o | .cpx o =>
      o.bytes
  | .tab | .tba | .tsx | .txs | .psha | .pshb | .pula | .pulb | .clra | .clrb | .aba | .sba | .cba | .daa
  | .nega | .negb | .inca | .incb | .deca | .decb | .tsta | .tstb | .inx | .dex | .ins | .des | .coma | .comb
  | .asla | .aslb | .asra | .asrb | .lsra | .lsrb | .rola | .rolb | .rora | .rorb | .rts | .nop | .clc | .sec
  | .clv | .sev | .cli | .sei | .tap | .tpa | .swi | .rti | .wai | .unimpl _ =>
      []
  | .clr o | .neg o | .inc o | .dec o | .tst o | .com o | .asl o | .asr o | .lsr o | .rol o | .ror o | .jmp o
  | .jsr o =>
      o.bytes
  | .bra rel | .bhi rel | .bls rel | .bcc rel | .bcs rel | .bne rel | .beq rel | .bvc rel | .bvs rel | .bpl rel
  | .bmi rel | .bge rel | .blt rel | .bgt rel | .ble rel | .bsr rel =>
      [rel]
  | .nim imm off | .oim imm off | .xim imm off | .tmm imm off =>
      [imm, off]
  | .adx o =>
      o.bytes

/-- An instruction's bytes: the opcode byte, then the operand bytes at the following addresses (R100). -/
def encode (i : Instr) : List Byte := i.opcode :: i.operandBytes

/-- The length in bytes, 1 to 3 (R100, R101). -/
def Instr.length (i : Instr) : Nat := (encode i).length

/-- The length that an opcode byte alone selects (R100). -/
def opcodeLength (ext : Bool) (op : Byte) : Nat := (decodeOp ext op 0 0).length

/-- Why a list of bytes is not the start of an instruction. No byte is refused for its value (R108). -/
inductive DecodeError where
  /-- there is no byte at all -/
  | noBytes
  /-- the list ends before the operand bytes of its opcode do -/
  | truncated (op : Byte)
  deriving DecidableEq, Repr

/-- Read one instruction from a list of bytes, and give the bytes after it (R100, R109). -/
def decode (ext : Bool) : List Byte → Except DecodeError (Instr × List Byte)
  | [] => .error .noBytes
  | op :: rest =>
    match opcodeLength ext op, rest with
    | 1, _ => .ok (decodeOp ext op 0 0, rest)
    | 2, b1 :: tail => .ok (decodeOp ext op b1 0, tail)
    | 3, b1 :: b2 :: tail => .ok (decodeOp ext op b1 b2, tail)
    | _, _ => .error (.truncated op)

/-- The bytes of a table word: bit 0 of `w` is the least significant bit of the first byte, the second byte is bits 15
to 8; bits from `nbits` on are 0. -/
def tableWordBytes (nbits w : Nat) : List Byte :=
  let v := w % 2 ^ nbits
  [BitVec.ofNat 8 v, BitVec.ofNat 8 (v / 256), BitVec.ofNat 8 (v / 65536)]

/-- The instruction the decoder reads from a table word, with the extension present (00_scope.md R13). -/
def decodeTableWord (nbits w : Nat) : Option Instr :=
  match decode true (tableWordBytes nbits w) with
  | .ok r => some r.1
  | .error _ => none

end Sys2Proof
end

