-- ==== Sys2Proof/Machine/LoadStore.lean ====
section
/-! DEFINITION. Loads, stores, transfers, stack moves, clear (40_load_store_transfer.md). -/

namespace Sys2Proof.Machine

/-- LDAA (R131). -/
def execLdaa (o : Src8) (s : State) : Host.Outcome State Fault Refusal :=
  .next (onA s o (fun _ m f => (m, f.logic8 m)))

/-- LDAB (R132). -/
def execLdab (o : Src8) (s : State) : Host.Outcome State Fault Refusal :=
  .next (onB s o (fun _ m f => (m, f.logic8 m)))

/-- STAA (R133): one write, no read; the flags are set whatever the address. -/
def execStaa (d : Dst) (s : State) : Host.Outcome State Fault Refusal :=
  .next ((write8 s (eaDst s d) s.a).setFlags (s.flags.logic8 s.a))

/-- STAB (R134): one write, no read; the flags are set whatever the address. -/
def execStab (d : Dst) (s : State) : Host.Outcome State Fault Refusal :=
  .next ((write8 s (eaDst s d) s.b).setFlags (s.flags.logic8 s.b))

/-- LDX (R135): the address uses the old X. -/
def execLdx (o : Src16) (s : State) : Host.Outcome State Fault Refusal :=
  let w := operand16 s o
  .next ((w.2.setX w.1).setFlags (s.flags.load16 w.1))

/-- LDS (R136). -/
def execLds (o : Src16) (s : State) : Host.Outcome State Fault Refusal :=
  let w := operand16 s o
  .next ((w.2.setSp w.1).setFlags (s.flags.load16 w.1))

/-- STX (R137): high byte first; the flags are `ST16_FLAGS` of the opcode byte of the form (R148). -/
def execStx (d : Dst) (s : State) : Host.Outcome State Fault Refusal :=
  .next ((write16 s (eaDst s d) s.x).setFlags (s.flags.store16 (Instr.stx d).opcode s.x))

/-- STS (R138): as STX. -/
def execSts (d : Dst) (s : State) : Host.Outcome State Fault Refusal :=
  .next ((write16 s (eaDst s d) s.sp).setFlags (s.flags.store16 (Instr.sts d).opcode s.sp))

/-- TAB (R139). -/
def execTab (s : State) : Host.Outcome State Fault Refusal := .next ((s.setB s.a).setFlags (s.flags.logic8 s.a))

/-- TBA (R140). -/
def execTba (s : State) : Host.Outcome State Fault Refusal := .next ((s.setA s.b).setFlags (s.flags.logic8 s.b))

/-- TSX (R141): `X <- SP + 1`, no flags. -/
def execTsx (s : State) : Host.Outcome State Fault Refusal := .next (s.setX (s.sp + 1))

/-- TXS (R142): `SP <- X - 1`, no flags. -/
def execTxs (s : State) : Host.Outcome State Fault Refusal := .next (s.setSp (s.x - 1))

/-- PSHA (R143). -/
def execPsha (s : State) : Host.Outcome State Fault Refusal := .next (push8 s s.a)

/-- PSHB (R144). -/
def execPshb (s : State) : Host.Outcome State Fault Refusal := .next (push8 s s.b)

/-- PULA (R145): no flags. -/
def execPula (s : State) : Host.Outcome State Fault Refusal :=
  let v := pull8 s
  .next (v.2.setA v.1)

/-- PULB (R146): no flags. -/
def execPulb (s : State) : Host.Outcome State Fault Refusal :=
  let v := pull8 s
  .next (v.2.setB v.1)

/-- CLRA (R149). -/
def execClra (s : State) : Host.Outcome State Fault Refusal := .next (unaryA s (fun _ f => (0, clrFlags f)))

/-- CLRB (R150). -/
def execClrb (s : State) : Host.Outcome State Fault Refusal := .next (unaryB s (fun _ f => (0, clrFlags f)))

/-- CLR (R151): one write and no read (D21). -/
def execClr (m : Loc) (s : State) : Host.Outcome State Fault Refusal :=
  .next ((write8 s (eaLoc s m) 0).setFlags (clrFlags s.flags))

end Sys2Proof.Machine
end

