-- ==== Sys2Proof/Machine/LogicShift.lean ====
section
/-! DEFINITION. Logic, complement, shifts and rotates (42_logic_shift.md). -/

namespace Sys2Proof.Machine

/-- ANDA (R211). -/
def execAnda (o : Src8) (s : State) : Host.Outcome State Fault Refusal :=
  .next (onA s o (fun acc m f => (acc &&& m, f.logic8 (acc &&& m))))

/-- ANDB (R212). -/
def execAndb (o : Src8) (s : State) : Host.Outcome State Fault Refusal :=
  .next (onB s o (fun acc m f => (acc &&& m, f.logic8 (acc &&& m))))

/-- ORAA (R213). -/
def execOraa (o : Src8) (s : State) : Host.Outcome State Fault Refusal :=
  .next (onA s o (fun acc m f => (acc ||| m, f.logic8 (acc ||| m))))

/-- ORAB (R214). -/
def execOrab (o : Src8) (s : State) : Host.Outcome State Fault Refusal :=
  .next (onB s o (fun acc m f => (acc ||| m, f.logic8 (acc ||| m))))

/-- EORA (R215). -/
def execEora (o : Src8) (s : State) : Host.Outcome State Fault Refusal :=
  .next (onA s o (fun acc m f => (acc ^^^ m, f.logic8 (acc ^^^ m))))

/-- EORB (R216). -/
def execEorb (o : Src8) (s : State) : Host.Outcome State Fault Refusal :=
  .next (onB s o (fun acc m f => (acc ^^^ m, f.logic8 (acc ^^^ m))))

/-- BITA (R217): the result is discarded. -/
def execBita (o : Src8) (s : State) : Host.Outcome State Fault Refusal :=
  .next (compareWith s s.a o (fun acc m f => f.logic8 (acc &&& m)))

/-- BITB (R218): the result is discarded. -/
def execBitb (o : Src8) (s : State) : Host.Outcome State Fault Refusal :=
  .next (compareWith s s.b o (fun acc m f => f.logic8 (acc &&& m)))

/-- COMA (R219). -/
def execComa (s : State) : Host.Outcome State Fault Refusal := .next (unaryA s com8)

/-- COMB (R220). -/
def execComb (s : State) : Host.Outcome State Fault Refusal := .next (unaryB s com8)

/-- COM, memory byte (R221). -/
def execCom (m : Loc) (s : State) : Host.Outcome State Fault Refusal := .next (readModifyWrite s (eaLoc s m) com8)

/-- ASLA (R223). -/
def execAsla (s : State) : Host.Outcome State Fault Refusal := .next (unaryA s asl8)

/-- ASLB (R224). -/
def execAslb (s : State) : Host.Outcome State Fault Refusal := .next (unaryB s asl8)

/-- ASL, memory byte (R225). -/
def execAsl (m : Loc) (s : State) : Host.Outcome State Fault Refusal := .next (readModifyWrite s (eaLoc s m) asl8)

/-- ASRA (R226). -/
def execAsra (s : State) : Host.Outcome State Fault Refusal := .next (unaryA s asr8)

/-- ASRB (R227). -/
def execAsrb (s : State) : Host.Outcome State Fault Refusal := .next (unaryB s asr8)

/-- ASR, memory byte (R228). -/
def execAsr (m : Loc) (s : State) : Host.Outcome State Fault Refusal := .next (readModifyWrite s (eaLoc s m) asr8)

/-- LSRA (R229). -/
def execLsra (s : State) : Host.Outcome State Fault Refusal := .next (unaryA s lsr8)

/-- LSRB (R230). -/
def execLsrb (s : State) : Host.Outcome State Fault Refusal := .next (unaryB s lsr8)

/-- LSR, memory byte (R231). -/
def execLsr (m : Loc) (s : State) : Host.Outcome State Fault Refusal := .next (readModifyWrite s (eaLoc s m) lsr8)

/-- ROLA (R232). -/
def execRola (s : State) : Host.Outcome State Fault Refusal := .next (unaryA s rol8)

/-- ROLB (R233). -/
def execRolb (s : State) : Host.Outcome State Fault Refusal := .next (unaryB s rol8)

/-- ROL, memory byte (R234). -/
def execRol (m : Loc) (s : State) : Host.Outcome State Fault Refusal := .next (readModifyWrite s (eaLoc s m) rol8)

/-- RORA (R235). -/
def execRora (s : State) : Host.Outcome State Fault Refusal := .next (unaryA s ror8)

/-- RORB (R236). -/
def execRorb (s : State) : Host.Outcome State Fault Refusal := .next (unaryB s ror8)

/-- ROR, memory byte (R237). -/
def execRor (m : Loc) (s : State) : Host.Outcome State Fault Refusal := .next (readModifyWrite s (eaLoc s m) ror8)

end Sys2Proof.Machine
end

