-- ==== Sys2Proof/Machine/System.lean ====
section
/-! DEFINITION. Flag instructions, moves of the flags, SWI, RTI, WAI (44_system_flags_stack.md). -/

namespace Sys2Proof.Machine

/-- CLC (R280). -/
def execClc (s : State) : Host.Outcome State Fault Refusal := .next (s.setFlags { s.flags with c := false })

/-- SEC (R281). -/
def execSec (s : State) : Host.Outcome State Fault Refusal := .next (s.setFlags { s.flags with c := true })

/-- CLV (R282). -/
def execClv (s : State) : Host.Outcome State Fault Refusal := .next (s.setFlags { s.flags with v := false })

/-- SEV (R283). -/
def execSev (s : State) : Host.Outcome State Fault Refusal := .next (s.setFlags { s.flags with v := true })

/-- CLI (R284). The next decision sees the new I. -/
def execCli (s : State) : Host.Outcome State Fault Refusal := .next (s.setFlags { s.flags with i := false })

/-- SEI (R285). -/
def execSei (s : State) : Host.Outcome State Fault Refusal := .next (s.setFlags { s.flags with i := true })

/-- TAP (R286). -/
def execTap (s : State) : Host.Outcome State Fault Refusal := .next (s.setFlags (Flags.unpack s.a))

/-- TPA (R287). -/
def execTpa (s : State) : Host.Outcome State Fault Refusal := .next (s.setA s.flags.pack)

/-- SWI (R295): the frame, I set, PC from `VEC_SWI`. -/
def execSwi (s : State) : Host.Outcome State Fault Refusal := .next (enterInterrupt s true true s.cfg.vecSwi)

/-- RTI (R296). -/
def execRti (s : State) : Host.Outcome State Fault Refusal := .next (pullAll s)

/-- WAI (R298): the frame, then parked; I unchanged. -/
def execWai (s : State) : Host.Outcome State Fault Refusal := .next ((pushAll s).setParked true)

end Sys2Proof.Machine
end

