-- ==== Sys2Proof/Machine/Fetch.lean ====
section
/-! DEFINITION. Fetching one instruction through the memory system (30_encoding.md R100 to R102, R114; 20_memory.md R81), and
placing one where it will be fetched. -/

namespace Sys2Proof.Machine

/-- The opcode byte, then as many operand bytes as it selects, each by `fetch8()` with its side effects (R102, R114): the
instruction, and the state with PC past its last byte. -/
def fetchInstr (s : State) : Instr × State :=
  let f0 := fetch8 s
  match opcodeLength s.cfg.extMb8861 f0.1 with
  | 1 => (decodeOp s.cfg.extMb8861 f0.1 0 0, f0.2)
  | 2 =>
    let f1 := fetch8 f0.2
    (decodeOp s.cfg.extMb8861 f0.1 f1.1 0, f1.2)
  | _ =>
    let f1 := fetch8 f0.2
    let f2 := fetch8 f1.2
    (decodeOp s.cfg.extMb8861 f0.1 f1.1 f2.1, f2.2)

/-- Nothing stands between the next step and a fetch: no call in progress, none queued, the loop's tick not empty, no latch
whose arm comes before the fetch (R321). A masked IRQ stays latched. -/
def readyToFetch (s : State) : State :=
  { s with
    resetPending := false
    nmiPending := false
    irqPending := s.irqPending && s.flags.i
    halt := false
    parked := false
    call := none
    calls := []
    chunk := max s.chunk 1 }

end Sys2Proof.Machine
end

