-- ==== Sys2Proof/Machine/Decision.lean ====
section
/-! DEFINITION. The decision machine of the CPU (60_exceptions.md R321) and the cost of each decision. -/

namespace Sys2Proof.Machine

/-- The six states of 10_state.md R39. -/
inductive Mode where
  | servicingReset
  | halted
  | servicingNmi
  | servicingIrq
  | waitingForInterrupt
  | running
  deriving DecidableEq, Repr

/-- Which arm a decision takes, from the state at its start, in the fixed priority (R39, 60_exceptions.md R321). -/
def State.mode (s : State) : Mode :=
  if s.resetPending then .servicingReset
  else if s.halt then .halted
  else if s.nmiPending then .servicingNmi
  else if s.irqPending && !s.flags.i then .servicingIrq
  else if s.parked then .waitingForInterrupt
  else .running

/-- `CYC[op]` of an executed instruction, `CYC_UNIMPL` of an unimplemented opcode (30_encoding.md R108, R114). -/
def instrCost (p : Params) : Instr → Nat
  | .unimpl _ => p.cycUnimpl
  | i => p.cyc.getD i.opcode.toNat p.cycUnimpl

/-- `PARKED_CHARGE`: the cycles a decision that stays parked charges, of the `remaining` ones (R333, 00_scope.md R15). -/
def parkedCost (p : Params) (remaining : Nat) : Nat :=
  match p.parkedCharge with
  | .remainingBudget => remaining
  | .fixed n => n

/-- Arm 6: fetch one instruction and execute the whole of it (R114). -/
def executeOne (s : State) : Host.Outcome (State × Nat) Fault Refusal :=
  let f := fetchInstr s
  match exec f.1 f.2 with
  | .next t => .next (t, instrCost s.cfg f.1)
  | .fault r => .fault r
  | .refused r => .refused r

/-- `decision(remaining)` (R321): the state after it and the cycles it charges. A parked decision charges
`PARKED_CHARGE` (R333). -/
def decision (remaining : Nat) (s : State) : Host.Outcome (State × Nat) Fault Refusal :=
  match s.mode with
  | .servicingReset => .next (resetSequence s, s.cfg.cycReset)
  | .halted => .next (s, s.cfg.cycHalt)
  | .servicingNmi => .next (serviceNmi s, s.cfg.cycNmi)
  | .servicingIrq => .next (serviceIrq s, s.cfg.cycIrq)
  | .waitingForInterrupt => .next (s, parkedCost s.cfg remaining)
  | .running => executeOne s

end Sys2Proof.Machine
end

