-- ==== Sys2Proof/Machine/Snapshot.lean ====
section
/-! DEFINITION. Export and import of the full state by the host (10_state.md R54). -/

namespace Sys2Proof.Machine

/-- The snapshot of a state. -/
def snapshotOf (s : State) : Snapshot where
  a := s.a
  b := s.b
  x := s.x
  sp := s.sp
  pc := s.pc
  flags := s.flags
  resetPending := s.resetPending
  nmiPending := s.nmiPending
  irqPending := s.irqPending
  halt := s.halt
  parked := s.parked
  ora := s.via.ora
  orb := s.via.orb
  ddra := s.via.ddra
  ddrb := s.via.ddrb
  t1 := s.via.t1
  t2 := s.via.t2
  t2FreeRun := s.via.t2FreeRun
  sr := s.via.sr
  srCount := Fin.ofNat 9 s.via.srCount
  acr := s.via.acr
  pcr := s.via.pcr
  ifr := s.via.ifr
  ier := s.via.ier
  cells := s.mem.map (fun c => (BitVec.ofNat 16 c.1, c.2))
  cycles := s.cycles
  irqLinePrev := s.irqLinePrev

/-- The chip with the registers of a snapshot; its lines and the log of its callbacks stay. -/
def importVia (p : Snapshot) (v : Via) : Via :=
  { v with
    ora := p.ora
    orb := p.orb
    ddra := p.ddra
    ddrb := p.ddrb
    t1 := p.t1
    t2 := p.t2
    t2FreeRun := p.t2FreeRun
    sr := p.sr
    srCount := p.srCount.val
    acr := p.acr
    pcr := p.pcr
    ifr := p.ifr
    ier := p.ier }

/-- Everything of a snapshot but its memory contents; memory is emptied. -/
def importRegisters (p : Snapshot) (s : State) : State :=
  { s with
    a := p.a
    b := p.b
    x := p.x
    sp := p.sp
    pc := p.pc
    flags := p.flags
    resetPending := p.resetPending
    nmiPending := p.nmiPending
    irqPending := p.irqPending
    halt := p.halt
    parked := p.parked
    via := importVia p s.via
    mem := []
    cycles := p.cycles
    irqLinePrev := p.irqLinePrev }

/-- The import of a snapshot (R54): the memory contents go to the backing stores, read-only ones included, without the side
effects of an access. -/
def importSnapshot (p : Snapshot) (s : State) : State := placeCells (importRegisters p s) p.cells

end Sys2Proof.Machine
end

