-- ==== Sys2Proof/Machine/Bus.lean ====
section
/-! DEFINITION. The calls of the host: `step`, the bus's `tick` with its forwarding and routing, and the rest of the
interface (60_exceptions.md R320, R325, R326, R344 to R346, R350). -/

namespace Sys2Proof.Machine

/-- `route_irq()` (R345); the other value of `IRQ_ROUTING` sets the latch from the level. -/
def routeIrq (s : State) : State :=
  let line := s.via.irqLine
  let assert := match s.cfg.irqRouting with
    | .risingEdgePerTick => line && !s.irqLinePrev
    | .levelPerTick => line
  (s.setIrqPending (s.irqPending || assert)).setIrqLinePrev line

/-- The chip's `tick(elapsed_cycles)` in the machine (R351). -/
def tickChip (s : State) (elapsed : Nat) : State := s.setVia (s.via.tick elapsed)

/-- `signal_halt(level)`: the false level changes nothing (10_state.md R37, C1). -/
def signalHalt (level : Bool) (s : State) : State := if level then s.setHalt true else s

/-- One input event: a signal sets its latch at once (R326), the others act on the chip (R350, R355 to R357, R372). -/
def applySignal (e : Signal) (s : State) : State :=
  match e with
  | .reset => s.setResetPending true
  | .nmi => s.setNmiPending true
  | .irq => s.setIrqPending true
  | .halt level => signalHalt level s
  | .inputA v => s.setVia { s.via with ina := v }
  | .inputB v => s.setVia { s.via with inb := v }
  | .inputCb2 level => s.setVia { s.via with cb2In := level }
  | .ctlEvent line => s.setVia (s.via.ctlEvent line)
  | .t2Pulse => s.setVia s.via.t2Pulse
  | .srExtPulse => s.setVia s.via.srExtPulse

/-- Input events, one after the other. -/
def applySignals : List Signal → State → State
  | [], s => s
  | e :: es, s => applySignals es (applySignal e s)

/-- Report a result to the host (00_scope.md R6). -/
def report (s : State) (o : Output) : State := s.setOuts (o :: s.outs)

/-- The tick of a device outside the core (R344): the device is told the elapsed cycles, and may raise signals (R325). Which
ones is no part of the spec: they are the next entry of `reactions`, none when there is no entry (log 18). That a tick
leaves `free`, and so what a device answers later, as it is, is DESIGN CHOICE, log 7. -/
def tickExternal (elapsed id : Nat) (s : State) : State :=
  let t := report s (.externalTick id elapsed)
  match t.reactions with
  | [] => t
  | es :: rest => applySignals es (t.setReactions rest)

/-- The tick of one attached peripheral (R344). -/
def tickPeripheral (elapsed : Nat) (d : Device) (s : State) : State :=
  match d with
  | .chip => tickChip s elapsed
  | .external id => tickExternal elapsed id s

/-- The elapsed cycles forwarded to the peripherals of a list, each once, in its order (R344). -/
def tickPeripherals (elapsed : Nat) : List Device → State → State
  | [], s => s
  | d :: ds, s => tickPeripherals elapsed ds (tickPeripheral elapsed d s)

/-- The end of a `step` call: the consumed cycles are counted (10_state.md R48). Under a bus tick every attached
peripheral gets the same count and then the line is routed (60_exceptions.md R344); a bare `step` returns the count to its caller. -/
def finishCall (c : Call) (s : State) : State :=
  let t := (s.setCall none).setCycles (s.cycles + c.consumed)
  if c.bus then routeIrq (tickPeripherals c.consumed t.cfg.peripherals.order t)
  else t.setOuts (.consumed c.consumed :: t.outs)

/-- After a decision of a call: the call goes on while budget remains (R320). -/
def afterDecision (c : Call) (s : State) : State :=
  if c.consumed < c.budget then s.setCall (some c) else finishCall c s

/-- One turn of the loop of a `step` call (R320): a decision while budget remains, else the end of the call. -/
def runCall (c : Call) (s : State) : Host.Outcome State Fault Refusal :=
  if c.consumed < c.budget then
    match decision (c.budget - c.consumed) s with
    | .next r => .next (afterDecision { c with consumed := c.consumed + r.2 } r.1)
    | .fault r => .fault r
    | .refused r => .refused r
  else .next (finishCall c s)

/-- A `step` or `tick` call with a signed budget: a negative one is refused before any change (R320). -/
def beginCall (bus : Bool) (budget : Int) (s : State) : Host.Outcome State Fault Refusal :=
  if budget < 0 then .refused .misuse else runCall ⟨bus, budget.toNat, 0⟩ s

/-- `read8` by the host (20_memory.md R83). -/
def hostRead8 (a : Word) (s : State) : State :=
  let r := read8 s a
  report r.2 (.byte r.1)

/-- `read16` by the host (R83). -/
def hostRead16 (a : Word) (s : State) : State :=
  let r := read16 s a
  report r.2 (.word r.1)

/-- `register_read` by the host (60_exceptions.md R350). -/
def hostRegisterRead (reg : BitVec 4) (s : State) : State :=
  let r := chipRead s reg
  report r.2 (.byte r.1)

/-- The chip's `reset()`, which also clears `IRQ_LINE_PREV` (10_state.md R52, 70_reset_and_hazards.md R401). -/
def resetChip (s : State) : State := (s.setVia s.via.reset).setIrqLinePrev false

/-- One call of the host. -/
def hostCall (k : HostCall) (s : State) : Host.Outcome State Fault Refusal :=
  match k with
  | .signal e => .next (applySignal e s)
  | .step n => beginCall false n s
  | .tick n => beginCall true n s
  | .read8 a => .next (hostRead8 a s)
  | .write8 a v => .next (write8 s a v)
  | .read16 a => .next (hostRead16 a s)
  | .write16 a w => .next (write16 s a w)
  | .chipReset => .next (resetChip s)
  | .chipTick n => .next (tickChip s n)
  | .routeIrq => .next (routeIrq s)
  | .registerRead reg => .next (hostRegisterRead reg s)
  | .registerWrite reg v => .next (chipWrite s reg v)
  | .exportState => .next (report s (.snapshot (snapshotOf s)))
  | .importState p => .next (importSnapshot p s)

/-- What the driving loop does next (00_scope.md R7): go on with the call in progress; else make the oldest queued call;
else call `tick(chunk)` (log 6). -/
def hostTurn (s : State) : Host.Outcome State Fault Refusal :=
  match s.call, s.calls with
  | some c, _ => runCall c s
  | none, k :: rest => hostCall k (s.setCalls rest)
  | none, [] => runCall ⟨true, s.chunk, 0⟩ s

end Sys2Proof.Machine
end

