-- ==== Sys2Proof/Machine/Step.lean ====
section
/-! DEFINITION. One step of the machine. -/

namespace Sys2Proof.Machine

/-- One step: one decision of the call in progress, or one call of the host (60_exceptions.md R320, R321, R326). -/
def step (s : State) : Host.Outcome State Fault Refusal := hostTurn s

/-- The state with an instruction's table word stored at PC, where the next step fetches it, and nothing in the way of the
fetch. -/
def State.withFetchWord (s : State) (nbits w : Nat) : State :=
  placeBytes (readyToFetch s) s.pc (tableWordBytes nbits w)

end Sys2Proof.Machine
end

