-- ==== Sys2Proof/Safety.lean ====
section
/-! DEFINITION. What counts as a well-kept state and as a safe run, in the terms the statements use. -/

namespace Sys2Proof.Machine

/-- Every listed cell stands in a backed region: addresses of no region hold no state (10_state.md R47). -/
def State.cellsBacked (s : State) : Bool := s.mem.all (fun c => backed s.cfg (BitVec.ofNat 16 c.1))

/-- The chip's shift counter is in 0..8 (R44). -/
def Via.countOk (v : Via) : Bool := decide (v.srCount ≤ 8)

/-- A call in progress has budget left (60_exceptions.md R320). -/
def State.callOk (s : State) : Bool :=
  match s.call with
  | some c => decide (c.consumed < c.budget)
  | none => true

/-- A queued import brings no free-running timer 2. -/
def HostCall.importsOneShot : HostCall → Bool
  | .importState p => !p.t2FreeRun
  | _ => true

/-- Where no register bit controls it, `T2_FREERUN` is 0 (R43, R355), in the machine and in every snapshot queued for it. -/
def State.t2Ok (s : State) : Bool :=
  s.cfg.t2FreeRunControl.isSome || (!s.via.t2FreeRun && s.calls.all HostCall.importsOneShot)

/-- The invariant of the machine: memory in canonical form and only where cells exist, shift counter in range, timer 2
one-shot where nothing controls its mode, a call in progress not yet due. -/
def State.Inv (s : State) : Prop :=
  Memory.wf s.mem = true ∧ s.cellsBacked = true ∧ s.via.countOk = true ∧ s.t2Ok = true ∧ s.callOk = true

/-- A call of the host that is no programmer misuse (R320, 00_scope.md R19). -/
def HostCall.proper : HostCall → Bool
  | .step n => decide (0 ≤ n)
  | .tick n => decide (0 ≤ n)
  | _ => true

/-- The calls still to come are no misuse. -/
def State.callsProper (s : State) : Bool := s.calls.all HostCall.proper

/-- A step that goes on. -/
def Continues (o : Host.Outcome State Fault Refusal) : Prop := ∃ t, o = .next t

/-- From `s` to `t` nothing was reported but calls of devices outside the core that read (20_memory.md R64): no write reached
one, no result, no tick. -/
def OnlyReadsReported (s t : State) : Prop :=
  ∃ os, t.outs = os ++ s.outs ∧ ∀ o ∈ os, ∃ id a, o = .externalRead id a

/-- Between calls, with none to come: the driving loop's next call is its own tick (R344, log 6). -/
def State.idle (s : State) : Prop := s.call = none ∧ s.calls = []

end Sys2Proof.Machine
end

