-- ==== Sys2Proof/Certificates/Slice0/Obligations.lean ====
section
/-! DEFINITION. The statements for the provers. The helpers of `Sys2Proof.Spec` write the spec's formulas again, in words of
their own where the spec gives an equivalent, so that a statement does not repeat a definition of the model. -/

namespace Sys2Proof.Spec

open Sys2Proof.Machine

/-! ### Encodings and costs: the "Encoding:" line of a rule -/

/-- The bytes of an instruction and its decided cost. -/
def Row (i : Instr) (bytes : List Byte) (cycles : Nat) : Prop :=
  encode i = bytes ∧ instrCost decidedParams i = cycles

/-- The four rows of an 8-bit accumulator operation: 2, 3, 5, 4 cycles. -/
def Rows8 (mk : Src8 → Instr) (imm dir idx ext : Byte) : Prop :=
  ∀ (v : Byte) (w : Word), Row (mk (.imm v)) [imm, v] 2 ∧ Row (mk (.dir v)) [dir, v] 3 ∧
    Row (mk (.idx v)) [idx, v] 5 ∧ Row (mk (.ext w)) [ext, hi8 w, lo8 w] 4

/-- The four rows of a 16-bit load or compare: 3, 4, 6, 5 cycles. -/
def Rows16 (mk : Src16 → Instr) (imm dir idx ext : Byte) : Prop :=
  ∀ (v : Byte) (w : Word), Row (mk (.imm w)) [imm, hi8 w, lo8 w] 3 ∧ Row (mk (.dir v)) [dir, v] 4 ∧
    Row (mk (.idx v)) [idx, v] 6 ∧ Row (mk (.ext w)) [ext, hi8 w, lo8 w] 5

/-- The three rows of a store; `n` cycles direct, `n + 2` indexed, `n + 1` extended. -/
def RowsStore (mk : Dst → Instr) (dir idx ext : Byte) (n : Nat) : Prop :=
  ∀ (v : Byte) (w : Word), Row (mk (.dir v)) [dir, v] n ∧ Row (mk (.idx v)) [idx, v] (n + 2) ∧
    Row (mk (.ext w)) [ext, hi8 w, lo8 w] (n + 1)

/-- The two rows of an operation on a memory operand. -/
def RowsMem (mk : Loc → Instr) (idx ext : Byte) (cIdx cExt : Nat) : Prop :=
  ∀ (v : Byte) (w : Word), Row (mk (.idx v)) [idx, v] cIdx ∧ Row (mk (.ext w)) [ext, hi8 w, lo8 w] cExt

/-- The three rows of a single-operand operation: A and B, 2 cycles; memory, 7 indexed and 6 extended. -/
def RowsUnary (onA onB : Instr) (mk : Loc → Instr) (a b idx ext : Byte) : Prop :=
  Row onA [a] 2 ∧ Row onB [b] 2 ∧ RowsMem mk idx ext 7 6

/-- The row of a relative branch. -/
def RowRel (mk : Byte → Instr) (op : Byte) (cycles : Nat) : Prop := ∀ r : Byte, Row (mk r) [op, r] cycles

/-- The row of an extension instruction with an immediate and an offset. -/
def RowImmIdx (mk : Byte → Byte → Instr) (op : Byte) (cycles : Nat) : Prop :=
  ∀ v n : Byte, Row (mk v n) [op, v, n] cycles

/-! ### The arithmetic of the rules, written from their own words -/

/-- 41_arithmetic.md R171, V as bit 7 of `(a xor r) and (m xor r)`. -/
def add (a m : Byte) (cin : Bool) (f : Flags) : Byte × Flags :=
  let r := a + m + BitVec.ofNat 8 cin.toNat
  (r, { f with
    h := decide (a.toNat % 16 + m.toNat % 16 + cin.toNat > 15)
    n := r.getLsbD 7
    z := decide (r = 0)
    v := ((a ^^^ r) &&& (m ^^^ r)).getLsbD 7
    c := decide (a.toNat + m.toNat + cin.toNat > 255) })

/-- R172, V as bit 7 of `(a xor m) and (a xor r)`, C as `m + bin > a`. -/
def sub (a m : Byte) (bin : Bool) (f : Flags) : Byte × Flags :=
  let r := a - m - BitVec.ofNat 8 bin.toNat
  (r, { f with
    n := r.getLsbD 7
    z := decide (r = 0)
    v := ((a ^^^ m) &&& (a ^^^ r)).getLsbD 7
    c := decide (m.toNat + bin.toNat > a.toNat) })

/-- R187: V only for the operand 0x80, C the borrow of `0 - m`. -/
def neg (m : Byte) (f : Flags) : Byte × Flags :=
  let r := BitVec.ofNat 8 (256 - m.toNat)
  (r, { f with n := r.getLsbD 7, z := decide (r = 0), v := decide (m = 0x80), c := decide (m ≠ 0) })

/-- R191. -/
def inc (m : Byte) (f : Flags) : Byte × Flags :=
  let r := BitVec.ofNat 8 (m.toNat + 1)
  (r, { f with n := r.getLsbD 7, z := decide (r = 0), v := decide (m = 0x7F) })

/-- R195. -/
def dec (m : Byte) (f : Flags) : Byte × Flags :=
  let r := BitVec.ofNat 8 (m.toNat + 255)
  (r, { f with n := r.getLsbD 7, z := decide (r = 0), v := decide (m = 0x80) })

/-- 42_logic_shift.md R219: the one's complement. -/
def com (m : Byte) (f : Flags) : Byte × Flags :=
  let r := ~~~m
  (r, { f with n := r.getLsbD 7, z := decide (r = 0), v := false, c := true })

/-- R222, the flags of a shift or rotate. -/
def shift (r : Byte) (out : Bool) (f : Flags) : Byte × Flags :=
  (r, { f with n := r.getLsbD 7, z := decide (r = 0), v := decide (r.getLsbD 7 ≠ out), c := out })

/-- The five functions of the table of R222. -/
def asl (m : Byte) (f : Flags) : Byte × Flags := shift (BitVec.ofNat 8 (2 * m.toNat)) (m.getLsbD 7) f
def asr (m : Byte) (f : Flags) : Byte × Flags := shift (m.sshiftRight 1) (m.getLsbD 0) f
def lsr (m : Byte) (f : Flags) : Byte × Flags := shift (BitVec.ofNat 8 (m.toNat / 2)) (m.getLsbD 0) f
def rol (m : Byte) (f : Flags) : Byte × Flags :=
  shift (BitVec.ofNat 8 (2 * m.toNat + f.c.toNat)) (m.getLsbD 7) f
def ror (m : Byte) (f : Flags) : Byte × Flags :=
  shift (BitVec.ofNat 8 (m.toNat / 2 + 128 * f.c.toNat)) (m.getLsbD 0) f

/-- Loads, byte stores, transfers, logic: N, Z of the byte, V cleared (40_load_store_transfer.md R130, 42_logic_shift.md R210). -/
def nzv (r : Byte) (f : Flags) : Flags := { f with n := r.getLsbD 7, z := decide (r = 0), v := false }

/-- The 16-bit loads: N bit 15, Z all 16 bits, V cleared (R135). -/
def nzv16 (w : Word) (f : Flags) : Flags := { f with n := w.getLsbD 15, z := decide (w = 0), v := false }

/-- CLR and its forms (R149). -/
def cleared (f : Flags) : Flags := { f with n := false, z := true, v := false, c := false }

/-- The state with a result in A and its flags. -/
def resultA (t : State) (r : Byte × Flags) : State := (t.setA r.1).setFlags r.2

/-- The state with a result in B and its flags. -/
def resultB (t : State) (r : Byte × Flags) : State := (t.setB r.1).setFlags r.2

/-- One read and one write of the same address, then the flags (20_memory.md R73). -/
def modified (s : State) (ea : Word) (f : Byte → Flags → Byte × Flags) : State :=
  (write8 (read8 s ea).2 ea (f (read8 s ea).1 s.flags).1).setFlags (f (read8 s ea).1 s.flags).2

/-- What three instructions of the single-operand group do: A, B, memory. -/
def Unary (onA onB : Instr) (mk : Loc → Instr) (f : Byte → Flags → Byte × Flags) : Prop :=
  ∀ (s : State) (m : Loc),
    exec onA s = .next (resultA s (f s.a s.flags)) ∧
    exec onB s = .next (resultB s (f s.b s.flags)) ∧
    exec (mk m) s = .next (modified s (eaLoc s m) f)

/-- The target of a relative branch: PC plus the signed offset, modulo 65536 (30_encoding.md R107). -/
def target (s : State) (rel : Byte) : Word := BitVec.ofInt 16 ((s.pc.toNat : Int) + rel.toInt)

/-- A conditional branch (43_control_transfer.md R240): taken or not, nothing but PC changes. -/
def Branch (mk : Byte → Instr) (op : Byte) (cond : Flags → Prop) : Prop :=
  RowRel mk op 4 ∧ ∀ (s : State) (rel : Byte),
    (cond s.flags → exec (mk rel) s = .next (s.setPc (target s rel))) ∧
    (¬ cond s.flags → exec (mk rel) s = .next s)

/-- The opcode byte of a store, by the form of its destination. -/
def storeOpcode (d : Dst) (dir idx ext : Byte) : Byte :=
  match d with
  | .dir _ => dir
  | .idx _ => idx
  | .ext _ => ext

/-! ### Regions and memory -/

/-- An address in a read-write region. -/
def Writable (s : State) (a : Word) : Prop := ∃ r, ownerOf s.cfg.regions a = some r ∧ r.mode = .readWrite

/-- The three bytes from PC on, as memory holds them. -/
def bytesAtPc (s : State) : List Byte :=
  [memGet s.mem s.pc.toNat, memGet s.mem (s.pc + 1).toNat, memGet s.mem (s.pc + 2).toNat]

/-- The next step from `s` belongs to the call `c`, and what it decides it decides in `s'`: the call is in progress; or it is the
oldest of the queued calls; or nothing is queued and it is the driving loop's tick (60_exceptions.md R320, R344, log 6). -/
def InCall (s s' : State) (c : Call) : Prop :=
  (s.call = some c ∧ s' = s) ∨
  (s.call = none ∧ c.consumed = 0 ∧ ∃ rest, s' = s.setCalls rest ∧
    ((c.bus = false ∧ s.calls = .step c.budget :: rest) ∨ (c.bus = true ∧ s.calls = .tick c.budget :: rest))) ∨
  (s.call = none ∧ s.calls = [] ∧ s' = s ∧ c = ⟨true, s.chunk, 0⟩)

/-- No arm of a decision stands before the sixth (60_exceptions.md R321): it fetches and executes an instruction. -/
def Running (s : State) : Prop :=
  s.resetPending = false ∧ s.halt = false ∧ s.nmiPending = false ∧ (s.irqPending = false ∨ s.flags.i = true) ∧
    s.parked = false

/-- The fetch of one instruction from memory of any kind (30_encoding.md R114, 20_memory.md R71, R76, 70_reset_and_hazards.md
R417): `i` is what the first one, two or three bytes at PC decode to with none left over, each read once by `read8`, in
the order of their addresses modulo 65536, and no other byte is read; `t` is the state after these reads, with PC past
the last of them. -/
def Fetched (s : State) (i : Instr) (t : State) : Prop :=
  let b0 := read8 s s.pc
  let b1 := read8 b0.2 (s.pc + 1)
  let b2 := read8 b1.2 (s.pc + 2)
  (decode s.cfg.extMb8861 [b0.1] = .ok (i, []) ∧ t = b0.2.setPc (s.pc + 1)) ∨
  (decode s.cfg.extMb8861 [b0.1, b1.1] = .ok (i, []) ∧ t = b1.2.setPc (s.pc + 2)) ∨
  (decode s.cfg.extMb8861 [b0.1, b1.1, b2.1] = .ok (i, []) ∧ t = b2.2.setPc (s.pc + 3))

/-- From `s`, a decision executes `i` in the state `t` after its fetch and charges its cost (R321); and with nothing queued, in
the driving loop's tick of one cycle, the step is that decision, after which the cost is counted, forwarded to the
peripherals, and the chip's line routed (R344). -/
def RunsFetched (s : State) (i : Instr) (t : State) : Prop :=
  (∀ n : Nat, decision n s =
    match exec i t with
    | .next u => .next (u, instrCost s.cfg i)
    | .fault r => .fault r
    | .refused r => .refused r) ∧
  (s.idle → s.chunk = 1 → 0 < instrCost s.cfg i → step s =
    match exec i t with
    | .next u => .next (routeIrq (tickPeripherals (instrCost s.cfg i) s.cfg.peripherals.order
        ((u.setCall none).setCycles (u.cycles + instrCost s.cfg i))))
    | .fault r => .fault r
    | .refused r => .refused r)

/-- The CC byte of the flags (10_state.md R31): bits 7 and 6 are 1, then H, I, N, Z, V, C. -/
def ccByte (f : Flags) : Byte :=
  BitVec.ofNat 8 (192 + 32 * f.h.toNat + 16 * f.i.toNat + 8 * f.n.toNat + 4 * f.z.toNat + 2 * f.v.toNat + f.c.toNat)

/-- The flags that a CC byte gives; its bits 7 and 6 are ignored (R31). -/
def ccFlags (b : Byte) : Flags :=
  ⟨b.getLsbD 5, b.getLsbD 4, b.getLsbD 3, b.getLsbD 2, b.getLsbD 1, b.getLsbD 0⟩

/-- The register frame pushed (44_system_flags_stack.md R288): seven writes in this order, whatever owns the cells (R418),
then SP is 7 less. -/
def framePushed (s : State) : State :=
  let w0 := write8 s s.sp (lo8 s.pc)
  let w1 := write8 w0 (s.sp - 1) (hi8 s.pc)
  let w2 := write8 w1 (s.sp - 2) (lo8 s.x)
  let w3 := write8 w2 (s.sp - 3) (hi8 s.x)
  let w4 := write8 w3 (s.sp - 4) s.a
  let w5 := write8 w4 (s.sp - 5) s.b
  let w6 := write8 w5 (s.sp - 6) (ccByte s.flags)
  w6.setSp (s.sp - 7)

/-- The register frame pulled (R289): seven reads in this order, whatever owns the cells, into CC, B, A, X and PC; SP is 7
more. -/
def framePulled (s : State) : State :=
  let cc := read8 s (s.sp + 1)
  let b := read8 cc.2 (s.sp + 2)
  let a := read8 b.2 (s.sp + 3)
  let xh := read8 a.2 (s.sp + 4)
  let xl := read8 xh.2 (s.sp + 5)
  let ph := read8 xl.2 (s.sp + 6)
  let pl := read8 ph.2 (s.sp + 7)
  { pl.2 with
    flags := ccFlags cc.1
    b := b.1
    a := a.1
    x := BitVec.ofNat 16 (256 * xh.1.toNat + xl.1.toNat)
    pc := BitVec.ofNat 16 (256 * ph.1.toNat + pl.1.toNat)
    sp := s.sp + 7 }

/-- The chip register an address selects in its region, `(addr - VIA_BASE) mod 16` (60_exceptions.md R350). -/
def registerAt (r : Region) (a : Word) : BitVec 4 := BitVec.ofNat 4 ((a.toNat - r.base) % 16)

/-- `SR_MODE`: bits 4 to 2 of ACR, as a number (60_exceptions.md R357). -/
def shiftMode (v : Via) : Nat := v.acr.toNat / 4 % 8

/-- The seven addresses of an interrupt frame. -/
def frameAddresses (s : State) : List Word :=
  [s.sp, s.sp - 1, s.sp - 2, s.sp - 3, s.sp - 4, s.sp - 5, s.sp - 6]

/-- The addresses an instruction stores to, computed as its meaning computes them; empty for a form that stores nothing. -/
def storedTo (s : State) : Instr → List Word
  | .staa d | .stab d => [eaDst s d]
  | .stx d | .sts d => [eaDst s d, eaDst s d + 1]
  | .clr m | .neg m | .com m | .inc m | .dec m | .asl m | .asr m | .lsr m | .rol m | .ror m => [eaLoc s m]
  | .nim _ off | .oim _ off | .xim _ off => [eaIdx s off]
  | .psha | .pshb => [s.sp]
  | .bsr _ | .jsr _ => [s.sp, s.sp - 1]
  | .swi | .wai => frameAddresses s
  | _ => []

/-! ### Which instruction writes which register and flag (10_state.md R20 to R30) -/

def writesA : Instr → Bool
  | .ldaa _ | .tba | .pula | .clra | .adda _ | .adca _ | .aba | .suba _ | .sbca _ | .sba | .daa | .nega | .inca | .deca
  | .anda _ | .oraa _ | .eora _ | .coma | .asla | .asra | .lsra | .rola | .rora | .tpa | .rti => true
  | _ => false

def writesB : Instr → Bool
  | .ldab _ | .tab | .pulb | .clrb | .addb _ | .adcb _ | .subb _ | .sbcb _ | .negb | .incb | .decb
  | .andb _ | .orab _ | .eorb _ | .comb | .aslb | .asrb | .lsrb | .rolb | .rorb | .rti => true
  | _ => false

/-- R21: X is written by LDX, INX, DEX, TSX, ADX, RTI. -/
def writesX : Instr → Bool
  | .ldx _ | .inx | .dex | .tsx | .adx _ | .rti => true
  | _ => false

/-- R23: SP is written by LDS, TXS, INS, DES, every push and pull. -/
def writesSp : Instr → Bool
  | .lds _ | .txs | .ins | .des | .psha | .pshb | .pula | .pulb | .bsr _ | .jsr _ | .rts | .swi | .rti | .wai => true
  | _ => false

/-- R22: PC is written by the branches, jumps, calls and returns, SWI and RTI. -/
def writesPc : Instr → Bool
  | .bra _ | .bhi _ | .bls _ | .bcc _ | .bcs _ | .bne _ | .beq _ | .bvc _ | .bvs _ | .bpl _ | .bmi _ | .bge _ | .blt _
  | .bgt _ | .ble _ | .bsr _ | .jmp _ | .jsr _ | .rts | .swi | .rti => true
  | _ => false

/-- R25: H is written only by ADDA, ADDB, ADCA, ADCB, ABA and by TAP and RTI. -/
def writesH : Instr → Bool
  | .adda _ | .addb _ | .adca _ | .adcb _ | .aba | .tap | .rti => true
  | _ => false

/-- R26, as far as instructions go: SWI, SEI, CLI, TAP, RTI. -/
def writesI : Instr → Bool
  | .swi | .sei | .cli | .tap | .rti => true
  | _ => false

/-- The instructions whose rules list no flag. -/
def writesNoFlag : Instr → Bool
  | .tsx | .txs | .psha | .pshb | .pula | .pulb | .ins | .des | .bra _ | .bhi _ | .bls _ | .bcc _ | .bcs _ | .bne _
  | .beq _ | .bvc _ | .bvs _ | .bpl _ | .bmi _ | .bge _ | .blt _ | .bgt _ | .ble _ | .bsr _ | .jmp _ | .jsr _ | .rts
  | .nop | .tpa | .wai | .unimpl _ => true
  | _ => false

/-- The instructions whose rules list C. -/
def writesC : Instr → Bool
  | .clra | .clrb | .clr _ | .adda _ | .addb _ | .adca _ | .adcb _ | .aba | .suba _ | .subb _ | .sbca _ | .sbcb _ | .sba
  | .cmpa _ | .cmpb _ | .cba | .daa | .nega | .negb | .neg _ | .tsta | .tstb | .tst _ | .coma | .comb | .com _
  | .asla | .aslb | .asl _ | .asra | .asrb | .asr _ | .lsra | .lsrb | .lsr _ | .rola | .rolb | .rol _ | .rora | .rorb
  | .ror _ | .clc | .sec | .tap | .rti | .adx _ => true
  | _ => false

/-- The value of a packed decimal byte, when both its digits are decimal. -/
def bcd (a : Byte) : Nat := 10 * (a.toNat / 16) + a.toNat % 16

/-- Both digits of a byte are decimal. -/
def isBcd (a : Byte) : Prop := a.toNat / 16 ≤ 9 ∧ a.toNat % 16 ≤ 9

/-- Whether a timer underflows in one timer cycle: its decrement is attempted at 0 (60_exceptions.md R352). -/
def underflows (t : Timer) : Bool := t.armed && decide (t.counter.toNat = 0)

/-- A timer after one timer cycle (R352). -/
def timerAfterCycle (freeRun : Bool) (t : Timer) : Timer :=
  { t with
    counter :=
      if t.armed = false then t.counter
      else if t.counter.toNat ≠ 0 then BitVec.ofNat 16 (t.counter.toNat - 1)
      else if freeRun then t.latch else 0xFFFF
    armed := t.armed && (freeRun || decide (t.counter.toNat ≠ 0)) }

/-- How often timer 1 underflows in `n` cycles. -/
def t1Underflows : Nat → Via → Nat
  | 0, _ => 0
  | n + 1, v => (if underflows v.t1 then 1 else 0) + t1Underflows n v.cycle

/-- How often timer 2 underflows in `n` cycles; in pulse mode, bit 5 of ACR, no cycle runs it (60_exceptions.md R355). -/
def t2Underflows : Nat → Via → Nat
  | 0, _ => 0
  | n + 1, v => (if underflows v.t2 && !v.acr.getLsbD 5 then 1 else 0) + t2Underflows n v.cycle

/-- The closed form of 60_exceptions.md R353 for one timer: before `t`, after `n` cycles `t'`, its flag bit before and
after, and the number of underflows in between. -/
def TimerAfter (freeRun : Bool) (t t' : Timer) (flag flag' : Bool) (n underflows : Nat) : Prop :=
  let c0 := t.counter.toNat
  let l := t.latch.toNat
  (t.armed = false → t' = t ∧ flag' = flag ∧ underflows = 0) ∧
  (t.armed = true → n ≤ c0 → t' = ⟨BitVec.ofNat 16 (c0 - n), t.latch, true⟩ ∧ flag' = flag ∧ underflows = 0) ∧
  (t.armed = true → freeRun = false → c0 < n → t' = ⟨0xFFFF, t.latch, false⟩ ∧ flag' = true ∧ underflows = 1) ∧
  (t.armed = true → freeRun = true → c0 < n →
    t' = ⟨BitVec.ofNat 16 (l - (n - c0 - 1) % (l + 1)), t.latch, true⟩ ∧ flag' = true ∧
      underflows = 1 + (n - c0 - 1) / (l + 1))

end Sys2Proof.Spec

open Sys2Proof Sys2Proof.Machine Sys2Proof.Spec

/-! ### Encoding -/

/-- Decoding the bytes of a well-formed instruction gives it back, with the bytes that follow, for every instruction and
every operand value (30_encoding.md R100 to R102, R109). -/
def Obligations.DecodeOfEncodeIsTheInstruction : Prop :=
  ∀ (ext : Bool) (i : Instr) (rest : List Byte), i.wellFormed ext = true →
    decode ext (encode i ++ rest) = .ok (i, rest)

/-- Every word has one meaning: what decodes encodes back to the same bytes and is well-formed (R109). -/
def Obligations.EncodeOfDecodeIsTheBytes : Prop :=
  ∀ (ext : Bool) (bs : List Byte) (i : Instr) (rest : List Byte), decode ext bs = .ok (i, rest) →
    encode i ++ rest = bs ∧ i.wellFormed ext = true

/-- Decoding is total on enough bytes: it fails only on an empty list, or on one shorter than its opcode asks for, which is
at most three bytes (R100, R108, R109). -/
def Obligations.DecoderFailsOnlyOnShortInput : Prop :=
  ∀ (ext : Bool) (op : Byte) (rest : List Byte),
    ((∃ e, decode ext (op :: rest) = .error e) ↔ rest.length + 1 < opcodeLength ext op) ∧ opcodeLength ext op ≤ 3

/-- R112: the unimplemented bytes are these 53, and these six as well when the extension is absent. -/
def Obligations.UnimplementedBytesAreTheListed : Prop :=
  ∀ (op b1 b2 : Byte),
    (decodeOp true op b1 b2 = .unimpl op ↔ op ∈ ([
      0x00, 0x02, 0x03, 0x04, 0x05, 0x12, 0x13, 0x14, 0x15, 0x18, 0x1A, 0x1C, 0x1D, 0x1E, 0x1F, 0x21, 0x38, 0x3A,
      0x3C, 0x3D, 0x41, 0x42, 0x45, 0x4B, 0x4E, 0x51, 0x52, 0x55, 0x5B, 0x5E, 0x61, 0x62, 0x65, 0x6B, 0x83, 0x87,
      0x8F, 0x93, 0x9D, 0xA3, 0xB3, 0xC3, 0xC7, 0xCC, 0xCD, 0xCF, 0xD3, 0xDC, 0xDD, 0xE3, 0xED, 0xF3, 0xFD] : List Byte)) ∧
    (decodeOp false op b1 b2 = .unimpl op ↔
      decodeOp true op b1 b2 = .unimpl op ∨ op ∈ ([0x71, 0x72, 0x75, 0x7B, 0xEC, 0xFC] : List Byte))

/-- Words written out from the spec's encodings, one of each family and format, decode to their instructions. -/
def Obligations.SpecWordsDecode : Prop :=
  decodeTableWord 16 0x8086 = some (.ldaa (.imm 0x80)) ∧
  decodeTableWord 24 0x00C1CE = some (.ldx (.imm 0xC100)) ∧
  decodeTableWord 16 0x4096 = some (.ldaa (.dir 0x40)) ∧
  decodeTableWord 16 0x026A = some (.dec (.idx 0x02)) ∧
  decodeTableWord 24 0x3412BB = some (.adda (.ext 0x1234)) ∧
  decodeTableWord 16 0xAA88 = some (.eora (.imm 0xAA)) ∧
  decodeTableWord 16 0xFE20 = some (.bra 0xFE) ∧
  decodeTableWord 8 0x3F = some .swi ∧
  decodeTableWord 24 0x050F71 = some (.nim 0x0F 0x05) ∧
  decodeTableWord 8 0x87 = some (.unimpl 0x87)

/-! ### Memory -/

/-- R66, R67, R64, R350: what `read8` gives and changes and what `write8` changes, by the region that owns the address, and what a
later read of memory gives. The clause on a device outside the core is the model's choice (log 7; R64 says only that its
handler is called with the address): the call is reported, a read is answered by a byte of which nothing is said, and
advances the counter of free values. -/
def Obligations.ByteAccessByRegion : Prop :=
  ∀ (s : State) (a : Word) (v : Byte), Memory.wf s.mem = true →
    (ownerOf s.cfg.regions a = none → read8 s a = (s.cfg.sentinel, s) ∧ write8 s a v = s) ∧
    ∀ r, ownerOf s.cfg.regions a = some r →
      (r.mode = .readWrite ∨ r.mode = .readOnly → read8 s a = (memGet s.mem a.toNat, s)) ∧
      (r.mode = .readOnly → write8 s a v = s) ∧
      (r.mode = .readWrite →
        write8 s a v = s.setMem (write8 s a v).mem ∧
        ∀ b : Nat, memGet (write8 s a v).mem b = if b = a.toNat then v else memGet s.mem b) ∧
      (r.mode = .deviceBacked (some .chip) →
        let reg := registerAt r a
        read8 s a = ((s.via.registerRead s.cfg.ierReadBit7 reg).1,
          s.setVia (s.via.registerRead s.cfg.ierReadBit7 reg).2) ∧
        write8 s a v = s.setVia (s.via.registerWrite s.cfg.t2FreeRunControl reg v)) ∧
      ∀ id : Nat, r.mode = .deviceBacked (some (.external id)) →
        (∃ answer : Byte, read8 s a = (answer, (s.setFree (s.free + 1)).setOuts (.externalRead id a :: s.outs))) ∧
        write8 s a v = s.setOuts (.externalWrite id a v :: s.outs)

/-- R68, R69: a 16-bit access is two 8-bit accesses, high byte first, the second at `a + 1` modulo 65536. R70: after
`write16(a, w)` on read-write cells the byte at `a` is the more significant one and `read16(a)` gives `w` back. The first
clause says what the halves and the join of words are as numbers (00_scope.md R16). -/
def Obligations.WordsAreBigEndian : Prop :=
  (∀ (w : Word) (h l : Byte), hi8 w = BitVec.ofNat 8 (w.toNat / 256) ∧ lo8 w = BitVec.ofNat 8 w.toNat ∧
    join h l = BitVec.ofNat 16 (256 * h.toNat + l.toNat)) ∧
  (∀ (s : State) (a w : Word),
    write16 s a w = write8 (write8 s a (BitVec.ofNat 8 (w.toNat / 256))) (a + 1) (BitVec.ofNat 8 w.toNat) ∧
    (read16 s a).2 = (read8 (read8 s a).2 (a + 1)).2 ∧
    (read16 s a).1 = BitVec.ofNat 16 (256 * (read8 s a).1.toNat + (read8 (read8 s a).2 (a + 1)).1.toNat)) ∧
  ∀ (s : State) (a w : Word), Memory.wf s.mem = true → Writable s a → Writable s (a + 1) →
    (read8 (write16 s a w) a).1 = hi8 w ∧ (read8 (write16 s a w) (a + 1)).1 = lo8 w ∧
    read16 (write16 s a w) a = (w, write16 s a w)

/-- R61: in a configuration that passes the check, the owner of an address is the region with `base <= a < base + length`,
whatever the order in which the regions are listed; an address that no region covers is unmapped. -/
def Obligations.OwnerIsTheCoveringRegion : Prop :=
  ∀ (rs : List Region) (a : Word), regionsValid rs = true →
    (∀ r : Region, ownerOf rs a = some r ↔ r ∈ rs ∧ r.base ≤ a.toNat ∧ a.toNat < r.base + r.length) ∧
    (ownerOf rs a = none ↔ ∀ r ∈ rs, ¬ (r.base ≤ a.toNat ∧ a.toNat < r.base + r.length))

/-- R62, R63: construction fails exactly when two regions overlap, or one has length zero, passes the top of the space or
is device-backed with no callback. -/
def Obligations.ConstructionRefusesBadRegions : Prop :=
  ∀ (p : Params) (image : List (Word × Byte)),
    construct p image = .fault .configurationError ↔
      ¬ (p.regions.Pairwise (fun r q => ∀ a : Nat, ¬ (r.covers a = true ∧ q.covers a = true)) ∧
        ∀ r ∈ p.regions, 0 < r.length ∧ r.base + r.length ≤ 65536 ∧ r.mode ≠ .deviceBacked none)

/-! ### Addressing modes and the stack -/

/-- R288, R289, R31, R418: `push_all()` is seven writes in their order and `pull_all()` seven reads in theirs, in every state,
whatever owns the cells; CC is the byte of R31, and packing the flags into it and unpacking loses nothing. When the seven
cells are read-write: where each of the seven bytes lies, and that `pull_all()` is the exact inverse of `push_all()`. -/
def Obligations.RegisterFramePushThenPull : Prop :=
  (∀ f : Flags, f.pack = ccByte f ∧ Flags.unpack f.pack = f) ∧
  (∀ v : Byte, Flags.unpack v = ccFlags v ∧ (Flags.unpack v).pack = v ||| 0xC0) ∧
  (∀ s : State, pushAll s = framePushed s ∧ pullAll s = framePulled s) ∧
  ∀ s : State, Memory.wf s.mem = true → (∀ a ∈ frameAddresses s, Writable s a) →
    (pushAll s).sp = s.sp - 7 ∧
    (frameAddresses s).map (fun a => memGet (pushAll s).mem a.toNat) =
      [lo8 s.pc, hi8 s.pc, lo8 s.x, hi8 s.x, s.a, s.b, ccByte s.flags] ∧
    pullAll (pushAll s) = s.setMem (pushAll s).mem

/-- R103 to R106: the operand of each mode; the direct address is in page zero, the indexed offset is unsigned and the sum
wraps modulo 65536. -/
def Obligations.OperandsOfEveryMode : Prop :=
  ∀ (s : State) (v : Byte) (w : Word),
    operand8 s (.imm v) = (v, s) ∧ operand16 s (.imm w) = (w, s) ∧
    operand8 s (.dir v) = read8 s (BitVec.ofNat 16 v.toNat) ∧
    operand16 s (.dir v) = read16 s (BitVec.ofNat 16 v.toNat) ∧
    operand8 s (.idx v) = read8 s (BitVec.ofNat 16 (s.x.toNat + v.toNat)) ∧
    operand16 s (.idx v) = read16 s (BitVec.ofNat 16 (s.x.toNat + v.toNat)) ∧
    operand8 s (.ext w) = read8 s w ∧ operand16 s (.ext w) = read16 s w ∧
    eaDst s (.dir v) = BitVec.ofNat 16 v.toNat ∧ eaDst s (.ext w) = w ∧ eaLoc s (.ext w) = w ∧
    eaDst s (.idx v) = BitVec.ofNat 16 (s.x.toNat + v.toNat) ∧ eaLoc s (.idx v) = BitVec.ofNat 16 (s.x.toNat + v.toNat) ∧
    eaIdx s v = BitVec.ofNat 16 (s.x.toNat + v.toNat)

/-! ### Instructions: results, flags, encodings and costs -/

/-- R131, R132, R135, R136: the loads. -/
def Obligations.LoadResults : Prop :=
  Rows8 .ldaa 0x86 0x96 0xA6 0xB6 ∧ Rows8 .ldab 0xC6 0xD6 0xE6 0xF6 ∧
  Rows16 .ldx 0xCE 0xDE 0xEE 0xFE ∧ Rows16 .lds 0x8E 0x9E 0xAE 0xBE ∧
  ∀ (s : State) (o : Src8) (w : Src16),
    exec (.ldaa o) s = .next (resultA (operand8 s o).2 ((operand8 s o).1, nzv (operand8 s o).1 s.flags)) ∧
    exec (.ldab o) s = .next (resultB (operand8 s o).2 ((operand8 s o).1, nzv (operand8 s o).1 s.flags)) ∧
    exec (.ldx w) s =
      .next (((operand16 s w).2.setX (operand16 s w).1).setFlags (nzv16 (operand16 s w).1 s.flags)) ∧
    exec (.lds w) s =
      .next (((operand16 s w).2.setSp (operand16 s w).1).setFlags (nzv16 (operand16 s w).1 s.flags))

/-- R133, R134: the byte stores: one write and no read, flags whatever the address. -/
def Obligations.ByteStoreResults : Prop :=
  RowsStore .staa 0x97 0xA7 0xB7 4 ∧ RowsStore .stab 0xD7 0xE7 0xF7 4 ∧
  ∀ (s : State) (d : Dst),
    exec (.staa d) s = .next ((write8 s (eaDst s d) s.a).setFlags (nzv s.a s.flags)) ∧
    exec (.stab d) s = .next ((write8 s (eaDst s d) s.b).setFlags (nzv s.b s.flags))

/-- R137, R138: the 16-bit stores: high byte first to EA, low byte to EA + 1, and the flags that one function `ST16_FLAGS`
of the opcode byte, the value and the flags before gives, whichever it is (R148, log 9): it leaves H, I and C unchanged. -/
def Obligations.WordStoreResults : Prop :=
  RowsStore .stx 0xDF 0xEF 0xFF 5 ∧ RowsStore .sts 0x9F 0xAF 0xBF 5 ∧
  ∃ st16 : Byte → Word → Flags → Flags,
    (∀ (op : Byte) (w : Word) (f : Flags), (st16 op w f).h = f.h ∧ (st16 op w f).i = f.i ∧ (st16 op w f).c = f.c) ∧
    ∀ (s : State) (d : Dst),
      exec (.stx d) s = .next
        ((write8 (write8 s (eaDst s d) (hi8 s.x)) (eaDst s d + 1) (lo8 s.x)).setFlags
          (st16 (storeOpcode d 0xDF 0xEF 0xFF) s.x s.flags)) ∧
      exec (.sts d) s = .next
        ((write8 (write8 s (eaDst s d) (hi8 s.sp)) (eaDst s d + 1) (lo8 s.sp)).setFlags
          (st16 (storeOpcode d 0x9F 0xAF 0xBF) s.sp s.flags))

/-- R139 to R146, R149 to R151: register transfers, stack moves and clears; CLR of memory writes once and does not read. -/
def Obligations.TransferStackMoveAndClearResults : Prop :=
  Row .tab [0x16] 2 ∧ Row .tba [0x17] 2 ∧ Row .tsx [0x30] 4 ∧ Row .txs [0x35] 4 ∧
  Row .psha [0x36] 4 ∧ Row .pshb [0x37] 4 ∧ Row .pula [0x32] 4 ∧ Row .pulb [0x33] 4 ∧
  RowsUnary .clra .clrb .clr 0x4F 0x5F 0x6F 0x7F ∧
  ∀ (s : State) (m : Loc),
    exec .tab s = .next (resultB s (s.a, nzv s.a s.flags)) ∧
    exec .tba s = .next (resultA s (s.b, nzv s.b s.flags)) ∧
    exec .tsx s = .next (s.setX (s.sp + 1)) ∧
    exec .txs s = .next (s.setSp (s.x - 1)) ∧
    exec .psha s = .next ((write8 s s.sp s.a).setSp (s.sp - 1)) ∧
    exec .pshb s = .next ((write8 s s.sp s.b).setSp (s.sp - 1)) ∧
    exec .pula s = .next (((read8 s (s.sp + 1)).2.setSp (s.sp + 1)).setA (read8 s (s.sp + 1)).1) ∧
    exec .pulb s = .next (((read8 s (s.sp + 1)).2.setSp (s.sp + 1)).setB (read8 s (s.sp + 1)).1) ∧
    exec .clra s = .next (resultA s (0, cleared s.flags)) ∧
    exec .clrb s = .next (resultB s (0, cleared s.flags)) ∧
    exec (.clr m) s = .next ((write8 s (eaLoc s m) 0).setFlags (cleared s.flags))

/-- R171, R173 to R177: the additions. -/
def Obligations.AdditionResults : Prop :=
  Rows8 .adda 0x8B 0x9B 0xAB 0xBB ∧ Rows8 .addb 0xCB 0xDB 0xEB 0xFB ∧ Rows8 .adca 0x89 0x99 0xA9 0xB9 ∧
  Rows8 .adcb 0xC9 0xD9 0xE9 0xF9 ∧ Row .aba [0x1B] 2 ∧
  ∀ (s : State) (o : Src8),
    exec (.adda o) s = .next (resultA (operand8 s o).2 (add s.a (operand8 s o).1 false s.flags)) ∧
    exec (.addb o) s = .next (resultB (operand8 s o).2 (add s.b (operand8 s o).1 false s.flags)) ∧
    exec (.adca o) s = .next (resultA (operand8 s o).2 (add s.a (operand8 s o).1 s.flags.c s.flags)) ∧
    exec (.adcb o) s = .next (resultB (operand8 s o).2 (add s.b (operand8 s o).1 s.flags.c s.flags)) ∧
    exec .aba s = .next (resultA s (add s.a s.b false s.flags))

/-- R172, R178 to R185: the subtractions and comparisons; H is not written, a comparison discards the result. -/
def Obligations.SubtractionAndCompareResults : Prop :=
  Rows8 .suba 0x80 0x90 0xA0 0xB0 ∧ Rows8 .subb 0xC0 0xD0 0xE0 0xF0 ∧ Rows8 .sbca 0x82 0x92 0xA2 0xB2 ∧
  Rows8 .sbcb 0xC2 0xD2 0xE2 0xF2 ∧ Row .sba [0x10] 2 ∧ Rows8 .cmpa 0x81 0x91 0xA1 0xB1 ∧
  Rows8 .cmpb 0xC1 0xD1 0xE1 0xF1 ∧ Row .cba [0x11] 2 ∧
  ∀ (s : State) (o : Src8),
    exec (.suba o) s = .next (resultA (operand8 s o).2 (sub s.a (operand8 s o).1 false s.flags)) ∧
    exec (.subb o) s = .next (resultB (operand8 s o).2 (sub s.b (operand8 s o).1 false s.flags)) ∧
    exec (.sbca o) s = .next (resultA (operand8 s o).2 (sub s.a (operand8 s o).1 s.flags.c s.flags)) ∧
    exec (.sbcb o) s = .next (resultB (operand8 s o).2 (sub s.b (operand8 s o).1 s.flags.c s.flags)) ∧
    exec .sba s = .next (resultA s (sub s.a s.b false s.flags)) ∧
    exec (.cmpa o) s = .next ((operand8 s o).2.setFlags (sub s.a (operand8 s o).1 false s.flags).2) ∧
    exec (.cmpb o) s = .next ((operand8 s o).2.setFlags (sub s.b (operand8 s o).1 false s.flags).2) ∧
    exec .cba s = .next (s.setFlags (sub s.a s.b false s.flags).2)

/-- V after an addition or subtraction says that the exact signed result is outside -128..127 (10_state.md R29,
41_arithmetic.md R170). -/
def Obligations.OverflowFlagIsSignedOverflow : Prop :=
  ∀ (a m : Byte) (c : Bool) (f : Flags),
    ((add8 a m c f).2.v = true ↔
      ¬ (-128 ≤ a.toInt + m.toInt + c.toNat ∧ a.toInt + m.toInt + c.toNat ≤ 127)) ∧
    ((sub8 a m c f).2.v = true ↔
      ¬ (-128 ≤ a.toInt - m.toInt - c.toNat ∧ a.toInt - m.toInt - c.toNat ≤ 127))

/-- R186: DAA, for every V it may leave (U1, log 7): A plus the correction, N and Z of the result, C never cleared, H and
everything else unchanged but the count of free values. -/
def Obligations.DecimalAdjustResults : Prop :=
  Row .daa [0x19] 2 ∧
  ∀ s : State, ∃ v : Bool,
    let lsn := s.a.toNat % 16
    let msn := s.a.toNat / 16
    let low := if lsn > 9 ∨ s.flags.h = true then 0x06 else 0
    let high := if msn > 9 ∨ s.flags.c = true ∨ (msn > 8 ∧ lsn > 9) then 0x60 else 0
    let t := s.a.toNat + low + high
    exec .daa s = .next ((resultA s (BitVec.ofNat 8 t, { s.flags with
      n := decide (t % 256 ≥ 128)
      z := decide (t % 256 = 0)
      v := v
      c := decide (s.flags.c = true ∨ t > 255) })).setFree (s.free + 1))

/-- What DAA is for (R186): after ADCA of two packed decimal bytes, DAA leaves their decimal sum in A, the hundreds in C. -/
def Obligations.DecimalAdjustCorrectsDecimalAddition : Prop :=
  ∀ (s t u : State) (o : Src8), isBcd s.a → isBcd (operand8 s o).1 →
    exec (.adca o) s = .next t → exec .daa t = .next u →
    isBcd u.a ∧ bcd u.a + 100 * u.flags.c.toNat = bcd s.a + bcd (operand8 s o).1 + s.flags.c.toNat

/-- R187 to R198: negate, increment, decrement, on A, B and memory. -/
def Obligations.NegateIncrementDecrementResults : Prop :=
  RowsUnary .nega .negb .neg 0x40 0x50 0x60 0x70 ∧ RowsUnary .inca .incb .inc 0x4C 0x5C 0x6C 0x7C ∧
  RowsUnary .deca .decb .dec 0x4A 0x5A 0x6A 0x7A ∧
  Unary .nega .negb .neg Spec.neg ∧ Unary .inca .incb .inc Spec.inc ∧ Unary .deca .decb .dec Spec.dec

/-- R199 to R206: the tests (TST of memory reads once and does not write), 16-bit counting (Z alone, or no flag) and CPX (N
and V from the high bytes alone, C unchanged). -/
def Obligations.TestCountAndCompareIndexResults : Prop :=
  RowsUnary .tsta .tstb .tst 0x4D 0x5D 0x6D 0x7D ∧ Row .inx [0x08] 4 ∧ Row .dex [0x09] 4 ∧ Row .ins [0x31] 4 ∧
  Row .des [0x34] 4 ∧ Rows16 .cpx 0x8C 0x9C 0xAC 0xBC ∧
  ∀ (s : State) (m : Loc) (o : Src16),
    exec .tsta s = .next (s.setFlags { nzv s.a s.flags with c := false }) ∧
    exec .tstb s = .next (s.setFlags { nzv s.b s.flags with c := false }) ∧
    exec (.tst m) s =
      .next ((read8 s (eaLoc s m)).2.setFlags { nzv (read8 s (eaLoc s m)).1 s.flags with c := false }) ∧
    exec .inx s = .next ((s.setX (s.x + 1)).setFlags { s.flags with z := decide (s.x = 0xFFFF) }) ∧
    exec .dex s = .next ((s.setX (s.x - 1)).setFlags { s.flags with z := decide (s.x = 0x0001) }) ∧
    exec .ins s = .next (s.setSp (s.sp + 1)) ∧
    exec .des s = .next (s.setSp (s.sp - 1)) ∧
    exec (.cpx o) s = .next ((operand16 s o).2.setFlags
      { (sub (hi8 s.x) (hi8 (operand16 s o).1) false s.flags).2 with
        z := decide (s.x = (operand16 s o).1)
        c := s.flags.c })

/-- R210 to R218: logic on the accumulators; V cleared, C and H unchanged, the bit tests discard the result. -/
def Obligations.LogicResults : Prop :=
  Rows8 .anda 0x84 0x94 0xA4 0xB4 ∧ Rows8 .andb 0xC4 0xD4 0xE4 0xF4 ∧ Rows8 .oraa 0x8A 0x9A 0xAA 0xBA ∧
  Rows8 .orab 0xCA 0xDA 0xEA 0xFA ∧ Rows8 .eora 0x88 0x98 0xA8 0xB8 ∧ Rows8 .eorb 0xC8 0xD8 0xE8 0xF8 ∧
  Rows8 .bita 0x85 0x95 0xA5 0xB5 ∧ Rows8 .bitb 0xC5 0xD5 0xE5 0xF5 ∧
  ∀ (s : State) (o : Src8),
    let m := (operand8 s o).1
    let t := (operand8 s o).2
    exec (.anda o) s = .next (resultA t (s.a &&& m, nzv (s.a &&& m) s.flags)) ∧
    exec (.andb o) s = .next (resultB t (s.b &&& m, nzv (s.b &&& m) s.flags)) ∧
    exec (.oraa o) s = .next (resultA t (s.a ||| m, nzv (s.a ||| m) s.flags)) ∧
    exec (.orab o) s = .next (resultB t (s.b ||| m, nzv (s.b ||| m) s.flags)) ∧
    exec (.eora o) s = .next (resultA t (s.a ^^^ m, nzv (s.a ^^^ m) s.flags)) ∧
    exec (.eorb o) s = .next (resultB t (s.b ^^^ m, nzv (s.b ^^^ m) s.flags)) ∧
    exec (.bita o) s = .next (t.setFlags (nzv (s.a &&& m) s.flags)) ∧
    exec (.bitb o) s = .next (t.setFlags (nzv (s.b &&& m) s.flags))

/-- R219 to R228, R222: complement, arithmetic shifts, on A, B and memory. -/
def Obligations.ComplementAndArithmeticShiftResults : Prop :=
  RowsUnary .coma .comb .com 0x43 0x53 0x63 0x73 ∧ RowsUnary .asla .aslb .asl 0x48 0x58 0x68 0x78 ∧
  RowsUnary .asra .asrb .asr 0x47 0x57 0x67 0x77 ∧
  Unary .coma .comb .com Spec.com ∧ Unary .asla .aslb .asl Spec.asl ∧ Unary .asra .asrb .asr Spec.asr

/-- R229 to R237, R222: logical shift and rotates through carry, on A, B and memory. -/
def Obligations.LogicalShiftAndRotateResults : Prop :=
  RowsUnary .lsra .lsrb .lsr 0x44 0x54 0x64 0x74 ∧ RowsUnary .rola .rolb .rol 0x49 0x59 0x69 0x79 ∧
  RowsUnary .rora .rorb .ror 0x46 0x56 0x66 0x76 ∧
  Unary .lsra .lsrb .lsr Spec.lsr ∧ Unary .rola .rolb .rol Spec.rol ∧ Unary .rora .rorb .ror Spec.ror

/-- R240 to R249: the branches on C, Z and V, and BRA. -/
def Obligations.BranchResultsOnCarryZeroOverflow : Prop :=
  Branch .bra 0x20 (fun _ => True) ∧
  Branch .bhi 0x22 (fun f => f.c = false ∧ f.z = false) ∧
  Branch .bls 0x23 (fun f => f.c = true ∨ f.z = true) ∧
  Branch .bcc 0x24 (fun f => f.c = false) ∧
  Branch .bcs 0x25 (fun f => f.c = true) ∧
  Branch .bne 0x26 (fun f => f.z = false) ∧
  Branch .beq 0x27 (fun f => f.z = true) ∧
  Branch .bvc 0x28 (fun f => f.v = false) ∧
  Branch .bvs 0x29 (fun f => f.v = true)

/-- R250 to R255: the branches on N and the signed ones. -/
def Obligations.BranchResultsOnSign : Prop :=
  Branch .bpl 0x2A (fun f => f.n = false) ∧
  Branch .bmi 0x2B (fun f => f.n = true) ∧
  Branch .bge 0x2C (fun f => f.n = f.v) ∧
  Branch .blt 0x2D (fun f => f.n ≠ f.v) ∧
  Branch .bgt 0x2E (fun f => f.z = false ∧ f.n = f.v) ∧
  Branch .ble 0x2F (fun f => f.z = true ∨ f.n ≠ f.v)

/-- After CMPA the ten comparing branches decide the order of A and the operand, unsigned and signed (R183, R242 to R255). -/
def Obligations.BranchesAfterCompareDecideTheOrder : Prop :=
  ∀ (s t : State) (o : Src8) (rel : Byte), exec (.cmpa o) s = .next t →
    let m := (operand8 s o).1
    let go := t.setPc (target t rel)
    exec (.bhi rel) t = .next (if m.toNat < s.a.toNat then go else t) ∧
    exec (.bls rel) t = .next (if s.a.toNat ≤ m.toNat then go else t) ∧
    exec (.bcc rel) t = .next (if m.toNat ≤ s.a.toNat then go else t) ∧
    exec (.bcs rel) t = .next (if s.a.toNat < m.toNat then go else t) ∧
    exec (.beq rel) t = .next (if s.a = m then go else t) ∧
    exec (.bne rel) t = .next (if s.a = m then t else go) ∧
    exec (.bge rel) t = .next (if m.toInt ≤ s.a.toInt then go else t) ∧
    exec (.blt rel) t = .next (if s.a.toInt < m.toInt then go else t) ∧
    exec (.bgt rel) t = .next (if m.toInt < s.a.toInt then go else t) ∧
    exec (.ble rel) t = .next (if s.a.toInt ≤ m.toInt then go else t)

/-- R256 to R260 and 30_encoding.md R108: calls, jumps, the return, NOP, and the unimplemented opcodes. -/
def Obligations.CallJumpReturnResults : Prop :=
  RowRel .bsr 0x8D 8 ∧ RowsMem .jmp 0x6E 0x7E 4 3 ∧ RowsMem .jsr 0xAD 0xBD 8 9 ∧ Row .rts [0x39] 5 ∧ Row .nop [0x01] 2 ∧
  (∀ op : Byte, Row (.unimpl op) [op] 1) ∧
  ∀ (s : State) (m : Loc) (rel op : Byte),
    let pushed := write8 (write8 s s.sp (lo8 s.pc)) (s.sp - 1) (hi8 s.pc)
    let h := read8 (s.setSp (s.sp + 1)) (s.sp + 1)
    let l := read8 (h.2.setSp (s.sp + 2)) (s.sp + 2)
    exec (.bsr rel) s = .next ((pushed.setSp (s.sp - 2)).setPc (target s rel)) ∧
    exec (.jsr m) s = .next ((pushed.setSp (s.sp - 2)).setPc (eaLoc s m)) ∧
    exec (.jmp m) s = .next (s.setPc (eaLoc s m)) ∧
    exec .rts s = .next (l.2.setPc (join h.1 l.1)) ∧
    exec .nop s = .next s ∧
    exec (.unimpl op) s = .next s

/-- A subroutine called with JSR or BSR and left by RTS returns to the instruction after the call, with SP as before, when
the two stack cells are read-write (R256, R258, R259). -/
def Obligations.ReturnUndoesCall : Prop :=
  ∀ (s t : State) (i : Instr), Memory.wf s.mem = true → Writable s s.sp → Writable s (s.sp - 1) →
    ((∃ m, i = .jsr m) ∨ ∃ rel, i = .bsr rel) → exec i s = .next t →
    exec .rts t = .next (s.setMem t.mem)

/-- R280 to R287: the flag instructions, TAP and TPA. -/
def Obligations.FlagInstructionResults : Prop :=
  Row .clc [0x0C] 2 ∧ Row .sec [0x0D] 2 ∧ Row .clv [0x0A] 2 ∧ Row .sev [0x0B] 2 ∧ Row .cli [0x0E] 2 ∧
  Row .sei [0x0F] 2 ∧ Row .tap [0x06] 2 ∧ Row .tpa [0x07] 2 ∧
  ∀ s : State,
    exec .clc s = .next (s.setFlags { s.flags with c := false }) ∧
    exec .sec s = .next (s.setFlags { s.flags with c := true }) ∧
    exec .clv s = .next (s.setFlags { s.flags with v := false }) ∧
    exec .sev s = .next (s.setFlags { s.flags with v := true }) ∧
    exec .cli s = .next (s.setFlags { s.flags with i := false }) ∧
    exec .sei s = .next (s.setFlags { s.flags with i := true }) ∧
    exec .tap s = .next (s.setFlags ⟨s.a.getLsbD 5, s.a.getLsbD 4, s.a.getLsbD 3, s.a.getLsbD 2, s.a.getLsbD 1,
      s.a.getLsbD 0⟩) ∧
    exec .tpa s = .next (s.setA (BitVec.ofNat 8 (192 + 32 * s.flags.h.toNat + 16 * s.flags.i.toNat +
      8 * s.flags.n.toNat + 4 * s.flags.z.toNat + 2 * s.flags.v.toNat + s.flags.c.toNat)))

/-- R295, R296, R298, R288, R289: SWI pushes the frame, sets I and loads PC from its vector; RTI pulls the frame; WAI pushes
the frame and parks. The seven writes and the seven reads are written out, for every state. -/
def Obligations.SoftwareInterruptReturnAndWaitResults : Prop :=
  Row .swi [0x3F] 12 ∧ Row .rti [0x3B] 10 ∧ Row .wai [0x3E] 9 ∧ decidedParams.vecSwi = 0xFFFA ∧
  ∀ s : State,
    (let p := framePushed s
     let m := p.setFlags { s.flags with i := true }
     exec .swi s = .next ((read16 m s.cfg.vecSwi).2.setPc (read16 m s.cfg.vecSwi).1)) ∧
    exec .rti s = .next (framePulled s) ∧
    exec .wai s = .next ((framePushed s).setParked true)

/-- R310 to R316: the extension instructions, for every `EXT_FLAGS`; what its four functions leave alone; and what they are in
the decided instance, at which R311 to R314 write them. -/
def Obligations.ExtensionResults : Prop :=
  RowImmIdx .nim 0x71 8 ∧ RowImmIdx .oim 0x72 8 ∧ RowImmIdx .xim 0x75 8 ∧ RowImmIdx .tmm 0x7B 7 ∧
  (∀ v : Byte, Row (.adx (.imm v)) [0xEC, v] 3) ∧ (∀ w : Word, Row (.adx (.ext w)) [0xFC, hi8 w, lo8 w] 7) ∧
  ∀ (s : State) (v off : Byte),
    let ea := BitVec.ofNat 16 (s.x.toNat + off.toNat)
    let m := (read8 s ea).1
    let e := s.cfg.extFlags
    exec (.nim v off) s = .next ((write8 (read8 s ea).2 ea (v &&& m)).setFlags (nimFlags e (v &&& m) s.flags)) ∧
    exec (.oim v off) s = .next ((write8 (read8 s ea).2 ea (v ||| m)).setFlags (oimFlags e (v ||| m) s.flags)) ∧
    exec (.xim v off) s = .next ((write8 (read8 s ea).2 ea (v ^^^ m)).setFlags (ximFlags e (v ^^^ m) s.flags)) ∧
    exec (.tmm v off) s = .next ((read8 s ea).2.setFlags (tmmFlags e v m s.flags)) ∧
    (∀ g ∈ [nimFlags e m s.flags, oimFlags e m s.flags, ximFlags e m s.flags, tmmFlags e v m s.flags],
      g.h = s.flags.h ∧ g.i = s.flags.i ∧ g.c = s.flags.c) ∧
    (e = decidedParams.extFlags → ∀ r : Byte,
      nimFlags e r s.flags = { s.flags with z := decide (r = 0), n := decide (r ≠ 0), v := false } ∧
      oimFlags e r s.flags = { s.flags with z := decide (r = 0), n := decide (r ≠ 0), v := false } ∧
      ximFlags e r s.flags = { s.flags with z := decide (r = 0), n := decide (r ≠ 0) } ∧
      tmmFlags e v r s.flags = { s.flags with
        n := decide (v ≠ 0 ∧ r ≠ 0 ∧ r ≠ 0xFF)
        z := decide (v = 0 ∨ r = 0)
        v := decide (v ≠ 0 ∧ r = 0xFF) }) ∧
    (∀ o : AdxSrc,
      let w := match o with
        | .imm b => (BitVec.ofNat 16 b.toNat, s)
        | .ext a => read16 s a
      let r := s.x + w.1
      exec (.adx o) s = .next ((w.2.setX r).setFlags { s.flags with
        n := r.getLsbD 15
        z := decide (r = 0)
        v := ((s.x ^^^ r) &&& (w.1 ^^^ r)).getLsbD 15
        c := decide (s.x.toNat + w.1.toNat > 65535) }))

/-! ### All instructions -/

/-- R130: every instruction completes, whatever its operands, its address and the state: no exception, no trap, no fault. -/
def Obligations.EveryInstructionCompletes : Prop :=
  ∀ (i : Instr) (s : State), ∃ t, exec i s = .next t

/-- The memory frame of every instruction: every byte outside the addresses it stores to reads as before, and only a byte
whose address lies in a read-write region can change at all (R64, R67, R71). A form that stores nothing calls no device outside
the core but to read. -/
def Obligations.InstructionsStoreOnlyWhereTheySay : Prop :=
  ∀ (i : Instr) (s t : State), exec i s = .next t →
    (∀ a : Nat, (∀ w ∈ storedTo s i, w.toNat ≠ a) → memGet t.mem a = memGet s.mem a) ∧
    (∀ a : Word, ¬ Writable s a → memGet t.mem a.toNat = memGet s.mem a.toNat) ∧
    (storedTo s i = [] → t.mem = s.mem ∧ OnlyReadsReported s t)

/-- The register frame of every instruction: A, B, X, SP and PC change only where R20 to R23 name the instruction, and
`parked` only by WAI (10_state.md R38). -/
def Obligations.InstructionsWriteOnlyTheirRegisters : Prop :=
  ∀ (i : Instr) (s t : State), exec i s = .next t →
    (writesA i = false → t.a = s.a) ∧ (writesB i = false → t.b = s.b) ∧ (writesX i = false → t.x = s.x) ∧
    (writesSp i = false → t.sp = s.sp) ∧ (writesPc i = false → t.pc = s.pc) ∧ (i ≠ .wai → t.parked = s.parked)

/-- The flag frame of every instruction: H, I and C change only where the rules list them, and an instruction whose rule
lists no flag changes none (R24 to R26, R30). -/
def Obligations.InstructionsWriteOnlyTheirFlags : Prop :=
  ∀ (i : Instr) (s t : State), exec i s = .next t →
    (writesH i = false → t.flags.h = s.flags.h) ∧ (writesI i = false → t.flags.i = s.flags.i) ∧
    (writesC i = false → t.flags.c = s.flags.c) ∧ (writesNoFlag i = true → t.flags = s.flags)

/-- No instruction touches a pending latch, the bus's state, what the host and the devices outside the core will do, or the
configuration (10_state.md R34 to R37, R48, R326). -/
def Obligations.InstructionsLeaveLatchesAndBusAlone : Prop :=
  ∀ (i : Instr) (s t : State), exec i s = .next t →
    t.resetPending = s.resetPending ∧ t.nmiPending = s.nmiPending ∧ t.irqPending = s.irqPending ∧ t.halt = s.halt ∧
    t.cycles = s.cycles ∧ t.irqLinePrev = s.irqLinePrev ∧ t.cfg = s.cfg ∧ t.call = s.call ∧ t.calls = s.calls ∧
    t.chunk = s.chunk ∧ t.reactions = s.reactions

/-! ### The decision machine -/

/-- A step runs the decoded instruction (R114, R321, R344). Whatever memory PC points to, backed, device-backed or unmapped
(20_memory.md R76, 70_reset_and_hazards.md R417): the instruction is fetched by the reads of its bytes, with their side
effects, and a decision that reaches arm 6 executes it in the state these leave. With the bytes in backed memory the reads
change nothing, so that state is the one before with PC past the instruction. The cost is `CYC` of its opcode byte, or
`CYC_UNIMPL` (R10, R108). What a step does after the decision, and what a larger budget does, is said in
`CallsEndWithinTheirBudget`. -/
def Obligations.StepRunsTheDecodedInstruction : Prop :=
  (∀ (s t : State) (i : Instr), Running s → Fetched s i t → RunsFetched s i t) ∧
  (∀ (s : State) (i : Instr) (rest : List Byte), Running s →
    decode s.cfg.extMb8861 (bytesAtPc s) = .ok (i, rest) →
    (∀ k : Nat, k < i.length → backed s.cfg (s.pc + BitVec.ofNat 16 k) = true) →
    RunsFetched s i (s.setPc (s.pc + BitVec.ofNat 16 i.length))) ∧
  ∀ (p : Params) (i : Instr) (op : Byte) (operands : List Byte) (n : Nat), encode i = op :: operands →
    ((∃ b, i = .unimpl b) → instrCost p i = p.cycUnimpl) ∧
    ((∀ b, i ≠ .unimpl b) → p.cyc[op.toNat]? = some n → instrCost p i = n)

/-- R321: the arm a decision takes, in the fixed priority, and what it charges; a parked one the whole remaining budget, or what
`PARKED_CHARGE` says in another instance than the decided one (log 11). -/
def Obligations.DecisionPriority : Prop :=
  ∀ (s : State) (n : Nat),
    (s.resetPending = true → decision n s = .next (resetSequence s, s.cfg.cycReset)) ∧
    (s.resetPending = false → s.halt = true → decision n s = .next (s, s.cfg.cycHalt)) ∧
    (s.resetPending = false → s.halt = false → s.nmiPending = true →
      decision n s = .next (serviceNmi s, s.cfg.cycNmi)) ∧
    (s.resetPending = false → s.halt = false → s.nmiPending = false → s.irqPending = true → s.flags.i = false →
      decision n s = .next (serviceIrq s, s.cfg.cycIrq)) ∧
    (s.resetPending = false → s.halt = false → s.nmiPending = false → (s.irqPending = false ∨ s.flags.i = true) →
      s.parked = true →
      (s.cfg.parkedCharge = .remainingBudget → decision n s = .next (s, n)) ∧
      ∀ k : Nat, s.cfg.parkedCharge = .fixed k → decision n s = .next (s, k)) ∧
    (s.resetPending = false → s.halt = false → s.nmiPending = false → (s.irqPending = false ∨ s.flags.i = true) →
      s.parked = false → decision n s = executeOne s)

/-- R322, R50: what the reset sequence leaves, for every value of the `RESET_*` parameters. -/
def Obligations.ResetSequenceLeaves : Prop :=
  ∀ s : State,
    let t := resetSequence s
    t.flags.i = true ∧ t.resetPending = false ∧ t.nmiPending = false ∧ t.irqPending = false ∧ t.halt = false ∧
    t.parked = false ∧ t.mem = s.mem ∧ OnlyReadsReported s t ∧ t.cycles = s.cycles ∧ t.irqLinePrev = s.irqLinePrev ∧
    t.a = s.cfg.resetA ∧ t.b = s.cfg.resetB ∧ t.x = s.cfg.resetX ∧ t.sp = s.cfg.resetSp ∧
    t.flags = ⟨s.cfg.resetH, true, s.cfg.resetN, s.cfg.resetZ, s.cfg.resetV, s.cfg.resetC⟩ ∧
    t.via = (read16 s s.cfg.vecReset).2.via ∧ t.pc = (read16 s s.cfg.vecReset).1

/-- R330 to R332: NMI and IRQ service, when not parked and when parked (the frame is then not pushed again): the latch is
cleared, `parked` too, I is set by IRQ and by NMI only where `NMI_SETS_I` is, PC comes from the vector. -/
def Obligations.InterruptService : Prop :=
  ∀ s : State,
    let p := if s.parked then s else framePushed s
    (let t := serviceNmi s
     t.nmiPending = false ∧ t.parked = false ∧ t.irqPending = s.irqPending ∧
     t.sp = (if s.parked then s.sp else s.sp - 7) ∧ t.mem = p.mem ∧ t.a = s.a ∧ t.b = s.b ∧ t.x = s.x ∧
     t.flags = { s.flags with i := s.flags.i || s.cfg.nmiSetsI } ∧ t.pc = (read16 p s.cfg.vecNmi).1 ∧
     t.via = (read16 p s.cfg.vecNmi).2.via) ∧
    (let t := serviceIrq s
     t.irqPending = false ∧ t.parked = false ∧ t.nmiPending = s.nmiPending ∧
     t.sp = (if s.parked then s.sp else s.sp - 7) ∧ t.mem = p.mem ∧ t.a = s.a ∧ t.b = s.b ∧ t.x = s.x ∧
     t.flags = { s.flags with i := true } ∧ t.pc = (read16 p s.cfg.vecIrq).1 ∧
     t.via = (read16 p s.cfg.vecIrq).2.via)

/-- R335, R289: RTI, executed in the state an IRQ or NMI service leaves, restores every register, the six flags and PC to
what they were when the interrupt was served while running, if the frame lies in read-write memory. -/
def Obligations.ReturnFromInterruptRestoresTheProgram : Prop :=
  ∀ s t : State, Memory.wf s.mem = true → (∀ a ∈ frameAddresses s, Writable s a) → s.parked = false →
    exec .rti (serviceIrq s) = .next t ∨ exec .rti (serviceNmi s) = .next t →
    t.a = s.a ∧ t.b = s.b ∧ t.x = s.x ∧ t.sp = s.sp ∧ t.pc = s.pc ∧ t.flags = s.flags

/-- R34 to R37, R326, R350: what each input event does as a call of the host, between steps: a signal sets its latch at once,
an input line of the chip its level, an event of the chip what `ChipEvents` says of it, and nothing else changes. A list of
input events, as a device outside the core raises it (log 18), is the same events one after the other. -/
def Obligations.HostSignalsSetTheirLatchOnly : Prop :=
  (∀ (s : State) (rest : List HostCall) (v : Byte) (level : Bool), s.call = none →
    let u := s.setCalls rest
    (s.calls = .signal .reset :: rest → step s = .next (u.setResetPending true)) ∧
    (s.calls = .signal .nmi :: rest → step s = .next (u.setNmiPending true)) ∧
    (s.calls = .signal .irq :: rest → step s = .next (u.setIrqPending true)) ∧
    (s.calls = .signal (.halt true) :: rest → step s = .next (u.setHalt true)) ∧
    (s.calls = .signal (.halt false) :: rest → step s = .next u) ∧
    (s.calls = .signal (.inputA v) :: rest → step s = .next (u.setVia { s.via with ina := v })) ∧
    (s.calls = .signal (.inputB v) :: rest → step s = .next (u.setVia { s.via with inb := v })) ∧
    (s.calls = .signal (.inputCb2 level) :: rest → step s = .next (u.setVia { s.via with cb2In := level })) ∧
    (∀ k : ControlLine, s.calls = .signal (.ctlEvent k) :: rest → step s = .next (u.setVia (s.via.ctlEvent k))) ∧
    (s.calls = .signal .t2Pulse :: rest → step s = .next (u.setVia s.via.t2Pulse)) ∧
    (s.calls = .signal .srExtPulse :: rest → step s = .next (u.setVia s.via.srExtPulse)) ∧
    ∀ e : Signal, s.calls = .signal e :: rest → step s = .next (applySignal e u)) ∧
  ∀ (es : List Signal) (s : State), applySignals es s = es.foldl (fun t e => applySignal e t) s

/-- R37: halt is entered only by `signal_halt(true)`, called by the host or by a device outside the core in its tick (log
18), and left only by the reset sequence. R38, R333: a step that ends the parked state is one whose decision was reset, NMI
or an unmasked IRQ; a step that begins it is one whose decision executed an instruction. All for every step from every
state, but the import of a snapshot by the host (R54). -/
def Obligations.HaltAndParkedEnteredAndLeftOnlyAsStated : Prop :=
  ∀ s t : State, step s = .next t →
    (s.call = none ∧ ∃ p rest, s.calls = .importState p :: rest) ∨
    (s.halt = false → t.halt = true →
      (s.call = none ∧ ∃ rest, s.calls = .signal (.halt true) :: rest) ∨ ∃ es ∈ s.reactions, .halt true ∈ es) ∧
    (s.halt = true → t.halt = false → s.resetPending = true) ∧
    (s.parked = true → t.parked = false →
      s.resetPending = true ∨
        (s.halt = false ∧ (s.nmiPending = true ∨ (s.irqPending = true ∧ s.flags.i = false)))) ∧
    (s.parked = false → t.parked = true → Running s)

/-- R345, R358, R36, R337: the chip's line is high when a flag and its enable are both set. Routing looks at it once, sets
the IRQ latch when the line is high and was low at the last look (or, in the other instance of `IRQ_ROUTING`, whenever it is
high), and remembers the level. So, with edge routing, the latch rises in a step only by `signal_irq()`, called by the host
or by a device outside the core in its tick (R325, log 18), or when the line was low at the last look and is high. (The import
of a snapshot, R54, sets every latch.) -/
def Obligations.IrqLatchRisesOncePerEdge : Prop :=
  (∀ v : Via, v.irqLine = true ↔ ∃ k < 7, v.ifr.getLsbD k = true ∧ v.ier.getLsbD k = true) ∧
  (∀ s : State,
    (s.cfg.irqRouting = .risingEdgePerTick → routeIrq s =
      { s with irqPending := s.irqPending || (s.via.irqLine && !s.irqLinePrev), irqLinePrev := s.via.irqLine }) ∧
    (s.cfg.irqRouting = .levelPerTick → routeIrq s =
      { s with irqPending := s.irqPending || s.via.irqLine, irqLinePrev := s.via.irqLine })) ∧
  ∀ s t : State, step s = .next t → s.cfg.irqRouting = .risingEdgePerTick → s.irqPending = false → t.irqPending = true →
    (s.call = none ∧ ∃ p rest, s.calls = .importState p :: rest) ∨
    (s.call = none ∧ ∃ rest, s.calls = .signal .irq :: rest) ∨
    (∃ es ∈ s.reactions, .irq ∈ es) ∨
      (s.irqLinePrev = false ∧ t.irqLinePrev = true ∧ t.via.irqLine = true)

/-- R54: the host's import of a snapshot. In a step it is one call; and importing the snapshot of a well-kept state `s`, on
any machine `u` of the same configuration, gives all state of R20 to R48 as `s` has it, memory included. That the lines INA,
INB, CB2_IN and CB2_OUT stay those of `u`, and that a cell the snapshot does not name is emptied, is the model's choice
(log 14). -/
def Obligations.SnapshotRestoresTheState : Prop :=
  (∀ (u : State) (p : Snapshot) (rest : List HostCall), u.call = none → u.calls = .importState p :: rest →
    step u = .next (importSnapshot p (u.setCalls rest))) ∧
  ∀ s u : State, Memory.wf s.mem = true → s.cellsBacked = true → s.via.countOk = true → s.cfg = u.cfg →
    importSnapshot (snapshotOf s) u = { s with
      via := { s.via with
        ina := u.via.ina, inb := u.via.inb, cb2In := u.via.cb2In, cb2Out := u.via.cb2Out
        portLog := u.via.portLog }
      call := u.call, calls := u.calls, chunk := u.chunk, outs := u.outs, reactions := u.reactions, free := u.free }

/-- R320: a negative budget is refused, with no state after it; a queued call with a budget that is not negative goes on. -/
def Obligations.NegativeBudgetIsRefused : Prop :=
  ∀ (s : State) (n : Int) (rest : List HostCall), s.call = none →
    (n < 0 → s.calls = .tick n :: rest → step s = .refused .misuse) ∧
    (n < 0 → s.calls = .step n :: rest → step s = .refused .misuse) ∧
    (0 ≤ n → s.calls = .tick n :: rest ∨ s.calls = .step n :: rest → Continues (step s))

/-- R19, R324: no step stops, from any state, unless the host misuses the machine: there is no fault state, and a refusal
comes from a negative budget alone. -/
def Obligations.NoStepStopsWithoutMisuse : Prop :=
  ∀ s : State, (s.callsProper = true → Continues (step s)) ∧
    (∀ r, step s ≠ .fault r) ∧ (∀ r, step s = .refused r → r = .misuse)

/-- R320, R344: the course of a `step` or `tick` call. It begins with nothing consumed, and with budget 0 ends at once. Each
decision adds its charge to what is consumed, and the call goes on while budget remains. At its end CYCLES gets the sum
(for a bare `step` that is read by inference, log 13); a bare `step` reports the sum, and a `tick` gives it to every
attached peripheral, once, in their order, and then routes the line. A peripheral that is the chip runs its `tick`; one
outside the core is told, and raises the signals of its reaction (log 18). When every cost is positive, the call ends
within as many decisions as it has cycles left. -/
def Obligations.CallsEndWithinTheirBudget : Prop :=
  (∀ (s : State) (rest : List HostCall), s.call = none →
    (s.calls = .step 0 :: rest → step s = .next ((s.setCalls rest).setOuts (.consumed 0 :: s.outs))) ∧
    (s.calls = .tick 0 :: rest →
      step s = .next (routeIrq (tickPeripherals 0 s.cfg.peripherals.order (s.setCalls rest))))) ∧
  (∀ (s s' u : State) (c : Call) (charge : Nat), InCall s s' c → c.consumed < c.budget →
    decision (c.budget - c.consumed) s' = .next (u, charge) →
    let total := c.consumed + charge
    let ended := (u.setCall none).setCycles (u.cycles + total)
    (total < c.budget → step s = .next (u.setCall (some ⟨c.bus, c.budget, total⟩))) ∧
    (c.budget ≤ total → c.bus = false → step s = .next (ended.setOuts (.consumed total :: u.outs))) ∧
    (c.budget ≤ total → c.bus = true →
      step s = .next (routeIrq (tickPeripherals total u.cfg.peripherals.order ended)))) ∧
  (∀ (s : State) (n : Nat) (p : Peripherals),
    (p.order = p.before.map .external ++ .chip :: p.after.map .external) ∧
    (∀ ds, tickPeripherals n ds s = ds.foldl (fun t d => tickPeripheral n d t) s) ∧
    tickPeripheral n .chip s = s.setVia (s.via.tick n) ∧
    (p = ⟨[], []⟩ → tickPeripherals n p.order s = s.setVia (s.via.tick n)) ∧
    (s.reactions = [] → tickPeripherals n p.order s = (s.setVia (s.via.tick n)).setOuts
      (((p.before ++ p.after).map (fun id => Output.externalTick id n)).reverse ++ s.outs)) ∧
    ∀ (id : Nat) (es : List Signal) (rest : List (List Signal)), s.reactions = es :: rest →
      tickPeripheral n (.external id) s = applySignals es ((s.setOuts (.externalTick id n :: s.outs)).setReactions rest)) ∧
  ∀ (s : State) (c : Call), s.cfg.costsPositive = true → s.call = some c → c.consumed < c.budget →
    ∃ (k : Nat) (t : State), k ≤ c.budget - c.consumed ∧ Host.Core.run Sys2Proof.core k s = Host.Outcome.next t ∧ t.call = none

/-- Every step keeps the invariant (memory in canonical form and only where cells exist, R47; the shift counter in 0..8,
R44; T2_FREERUN 0 where nothing controls it, R43; a call in progress with budget left, R320) and the configuration (R12, R60). -/
def Obligations.EveryStepKeepsTheStateWellFormed : Prop :=
  ∀ s t : State, s.Inv → step s = .next t → t.Inv ∧ t.cfg = s.cfg

/-- The state after reset meets the invariant. -/
def Obligations.ResetStateIsWellFormed : Prop := State.reset.Inv

/-- The model's choice for the state after reset (logs 1, 2, 15): `State.reset` is what the reset sequence leaves on a machine
constructed with the decided parameters and no memory image. -/
def Obligations.ResetStateIsTheResetSequence : Prop :=
  construct decidedParams [] = .next (State.constructed decidedParams) ∧
  resetSequence ((State.constructed decidedParams).setResetPending true) = State.reset

/-! ### The chip -/

/-- R353 for both timers: the closed form over `tick(n)`, timer 2 outside pulse mode. -/
def Obligations.TimersOverATickInClosedForm : Prop :=
  ∀ (v : Via) (n : Nat),
    TimerAfter (v.acr.getLsbD 6) v.t1 (v.tick n).t1 (v.ifr.getLsbD 6) ((v.tick n).ifr.getLsbD 6) n (t1Underflows n v) ∧
    (v.acr.getLsbD 5 = false →
      TimerAfter v.t2FreeRun v.t2 (v.tick n).t2 (v.ifr.getLsbD 5) ((v.tick n).ifr.getLsbD 5) n (t2Underflows n v))

/-- R351, R45: a tick of one is `cycle()`, `tick(a + b)` has the same effect as `tick(a); tick(b)`, `tick(0)` does nothing, and
a tick clears no interrupt flag. -/
def Obligations.TicksAddAndClearNoFlag : Prop :=
  ∀ (v : Via) (a b : Nat), v.tick (a + b) = (v.tick a).tick b ∧ v.tick 0 = v ∧ v.tick 1 = v.cycle ∧
    ∀ k : Nat, v.ifr.getLsbD k = true → (v.tick a).ifr.getLsbD k = true

/-- R360, R362, R363, R369, R370: what `register_read` gives and changes for each register: only the reads of 4, 8 and 0xA
have a side effect, each clearing one flag (and the last restarting the shift count). -/
def Obligations.ChipRegisterReads : Prop :=
  ∀ (v : Via) (b7 : Bool) (reg : BitVec 4),
    (reg ≠ 4 → reg ≠ 8 → reg ≠ 0xA → (v.registerRead b7 reg).2 = v) ∧
    (v.registerRead b7 4 = (BitVec.ofNat 8 v.t1.counter.toNat, { v with ifr := v.ifr &&& 0x3F })) ∧
    (v.registerRead b7 8 = (BitVec.ofNat 8 v.t2.counter.toNat, { v with ifr := v.ifr &&& 0x5F })) ∧
    (v.registerRead b7 0xA = (v.sr, { v with ifr := v.ifr &&& 0x7B, srCount := 0 })) ∧
    (v.registerRead b7 5).1 = BitVec.ofNat 8 (v.t1.counter.toNat / 256) ∧
    (v.registerRead b7 6).1 = BitVec.ofNat 8 v.t1.latch.toNat ∧
    (v.registerRead b7 7).1 = BitVec.ofNat 8 (v.t1.latch.toNat / 256) ∧
    (v.registerRead b7 9).1 = BitVec.ofNat 8 (v.t2.counter.toNat / 256) ∧
    (v.registerRead b7 0xB).1 = v.acr ∧ (v.registerRead b7 0xC).1 = v.pcr ∧
    (v.registerRead b7 2).1 = v.ddrb ∧ (v.registerRead b7 3).1 = v.ddra ∧
    (v.registerRead b7 0xF) = (v.registerRead b7 1) ∧
    (v.registerRead b7 0xE).1 = BitVec.ofNat 8 (128 * b7.toNat + v.ier.toNat) ∧
    (∀ k < 8, (v.registerRead b7 0).1.getLsbD k = if v.ddrb.getLsbD k then v.orb.getLsbD k else v.inb.getLsbD k) ∧
    (∀ k < 8, (v.registerRead b7 1).1.getLsbD k = if v.ddra.getLsbD k then v.ora.getLsbD k else v.ina.getLsbD k) ∧
    (∀ k < 7, (v.registerRead b7 0xD).1.getLsbD k = v.ifr.getLsbD k) ∧
    ((v.registerRead b7 0xD).1.getLsbD 7 = true ↔ ∃ k < 7, v.ifr.getLsbD k = true ∧ v.ier.getLsbD k = true)

/-- R360, R362 to R371: what `register_write` changes for each register, where no register bit controls `T2_FREERUN`, as decided;
where one does, a write of its register sets `T2_FREERUN` to that bit as well (the model's reading of
`T2_FREERUN_CONTROL`, log 11). -/
def Obligations.ChipRegisterWrites : Prop :=
  (∀ (v : Via) (c : ControlBit) (reg : BitVec 4) (b : Byte),
    v.registerWrite (some c) reg b =
      if reg = c.reg then { v.registerWrite none reg b with t2FreeRun := b.getLsbD c.bit.val }
      else v.registerWrite none reg b) ∧
  ∀ (v : Via) (b : Byte),
    let word := fun (h l : Nat) => BitVec.ofNat 16 (256 * (h % 256) + l % 256)
    let l1 := word b.toNat v.t1.latch.toNat
    let l2 := word b.toNat v.t2.latch.toNat
    v.registerWrite none 0x0 b = { v with orb := b, portLog := .pins .b b v.ddrb :: v.portLog } ∧
    v.registerWrite none 0x1 b = { v with ora := b, portLog := .pins .a b v.ddra :: v.portLog } ∧
    v.registerWrite none 0x2 b = { v with ddrb := b, portLog := .pins .b v.orb b :: v.portLog } ∧
    v.registerWrite none 0x3 b = { v with ddra := b, portLog := .pins .a v.ora b :: v.portLog } ∧
    v.registerWrite none 0x4 b = { v with t1 := ⟨v.t1.counter, word (v.t1.latch.toNat / 256) b.toNat, v.t1.armed⟩ } ∧
    v.registerWrite none 0x5 b = { v with t1 := ⟨l1, l1, true⟩, ifr := v.ifr &&& 0x3F } ∧
    v.registerWrite none 0x6 b = v.registerWrite none 0x4 b ∧
    v.registerWrite none 0x7 b = { v with t1 := ⟨v.t1.counter, l1, v.t1.armed⟩, ifr := v.ifr &&& 0x3F } ∧
    v.registerWrite none 0x8 b = { v with t2 := ⟨v.t2.counter, word (v.t2.latch.toNat / 256) b.toNat, v.t2.armed⟩ } ∧
    v.registerWrite none 0x9 b = { v with t2 := ⟨l2, l2, true⟩, ifr := v.ifr &&& 0x5F } ∧
    v.registerWrite none 0xA b = { v with sr := b, srCount := 0, ifr := v.ifr &&& 0x7B } ∧
    v.registerWrite none 0xB b = { v with acr := b } ∧
    v.registerWrite none 0xC b = { v with pcr := b } ∧
    v.registerWrite none 0xF b = v.registerWrite none 0x1 b ∧
    (v.registerWrite none 0xD b = { v with ifr := (v.registerWrite none 0xD b).ifr } ∧
      ∀ k < 7, (v.registerWrite none 0xD b).ifr.getLsbD k = (v.ifr.getLsbD k && !b.getLsbD k)) ∧
    (v.registerWrite none 0xE b = { v with ier := (v.registerWrite none 0xE b).ier } ∧
      ∀ k < 7, (v.registerWrite none 0xE b).ier.getLsbD k =
        if b.getLsbD 7 then v.ier.getLsbD k || b.getLsbD k else v.ier.getLsbD k && !b.getLsbD k)

/-- R351, R355, R356, R357, R372, R52: the chip's events, with `SR_MODE` as bits 4 to 2 of ACR. `ctl_event` raises its flag
bit alone. One elapsed cycle runs both timers, timer 2 only outside pulse mode, and then shifts once in modes 0b010 and
0b110, and once in modes 0b001, 0b100 and 0b101 if timer 2 underflowed. `t2_pulse` runs timer 2 in pulse mode and does
nothing otherwise (that it does nothing, and that its underflow shifts in those three modes, is read by inference, log 12);
`sr_ext_pulse` shifts in modes 0b011 and 0b111. A shift of an idle register does nothing, except in mode 0b100, where the
count starts again; any other takes `CB2_IN` in at bit 0 or rotates bit 7 round through `CB2_OUT`, counts one and flags the
eighth (how `CB2_OUT` is reported is the model's choice, log 17). The chip's own `reset()` clears every register, flag and
enable, makes the count 8 and `IRQ_LINE_PREV` 0, and touches nothing else of the machine (that the lines keep their level is
log 3). -/
def Obligations.ChipEvents : Prop :=
  (∀ v : Via,
    v.ctlEvent .ca2 = { v with ifr := v.ifr ||| 0x01 } ∧ v.ctlEvent .ca1 = { v with ifr := v.ifr ||| 0x02 } ∧
    v.ctlEvent .cb2 = { v with ifr := v.ifr ||| 0x08 } ∧ v.ctlEvent .cb1 = { v with ifr := v.ifr ||| 0x10 }) ∧
  (∀ v : Via,
    let onTimer2 := shiftMode v ∈ ([0b001, 0b100, 0b101] : List Nat)
    let onCycle := shiftMode v ∈ ([0b010, 0b110] : List Nat)
    let pulses := v.acr.getLsbD 5
    let flag1 : BitVec 7 := if underflows v.t1 then 0x40 else 0
    let flag2 : BitVec 7 := if underflows v.t2 then 0x20 else 0
    let w1 := { v with t1 := timerAfterCycle (v.acr.getLsbD 6) v.t1, ifr := v.ifr ||| flag1 }
    let w2 := { v with t2 := timerAfterCycle v.t2FreeRun v.t2, ifr := v.ifr ||| flag2 }
    let w12 := { w1 with t2 := timerAfterCycle v.t2FreeRun v.t2, ifr := v.ifr ||| flag1 ||| flag2 }
    (onCycle → v.cycle = if pulses then w1.srShift else w12.srShift) ∧
    (onTimer2 → v.cycle = if pulses then w1 else if underflows v.t2 then w12.srShift else w12) ∧
    (¬ onCycle → ¬ onTimer2 → v.cycle = if pulses then w1 else w12) ∧
    (pulses = false → v.t2Pulse = v) ∧
    (pulses = true → onTimer2 → v.t2Pulse = if underflows v.t2 then w2.srShift else w2) ∧
    (pulses = true → ¬ onTimer2 → v.t2Pulse = w2)) ∧
  (∀ v : Via,
    let out := v.sr.getLsbD 7
    (shiftMode v ≠ 0b011 → shiftMode v ≠ 0b111 → v.srExtPulse = v) ∧
    (shiftMode v = 0b011 ∨ shiftMode v = 0b111 → v.srExtPulse = v.srShift) ∧
    (v.srCount = 8 → shiftMode v ≠ 0b100 → v.srShift = v) ∧
    (v.srCount = 8 → shiftMode v = 0b100 → v.srShift = { v with
      sr := v.sr.rotateLeft 1, srCount := 1, cb2Out := out, portLog := .cb2 out :: v.portLog }) ∧
    (v.srCount < 8 → shiftMode v < 4 → v.srShift = { v with
      sr := BitVec.ofNat 8 (2 * v.sr.toNat + v.cb2In.toNat)
      srCount := v.srCount + 1
      ifr := if v.srCount = 7 then v.ifr ||| 0x04 else v.ifr }) ∧
    (v.srCount < 8 → 4 ≤ shiftMode v → v.srShift = { v with
      sr := v.sr.rotateLeft 1
      srCount := v.srCount + 1
      ifr := if v.srCount = 7 then v.ifr ||| 0x04 else v.ifr
      cb2Out := out
      portLog := .cb2 out :: v.portLog })) ∧
  ∀ (s : State) (rest : List HostCall), s.call = none → s.calls = .chipReset :: rest →
    step s = .next { s with
      calls := rest
      irqLinePrev := false
      via := ⟨0, 0, 0, 0, ⟨0, 0, false⟩, ⟨0, 0, false⟩, false, 0, 8, 0, 0, 0, 0, s.via.ina, s.via.inb, s.via.cb2In,
        s.via.cb2Out, s.via.portLog⟩ }

/-- R356: eight shifts of a transfer that shifts out bring the register round to what it was, set its flag, and leave it
idle, in every mode that shifts out and stops: 0b101, 0b110 and 0b111 in bits 4 to 2 of ACR (R357). -/
def Obligations.EightShiftsOutRotateTheRegister : Prop :=
  ∀ v : Via, v.srCount = 0 → 4 < shiftMode v →
    let w := v.srShift.srShift.srShift.srShift.srShift.srShift.srShift.srShift
    w.sr = v.sr ∧ w.srCount = 8 ∧ w.ifr = v.ifr ||| 0x04 ∧ w.srShift = w

/-- R411: STX or STS, of any form, whose two bytes go to the registers 4 and 5 or 8 and 9 of a timer arms it with the bytes
swapped; and a 16-bit read of the timer 1 pair, as LDX makes, gives the two halves of its counter swapped and clears its
flag. -/
def Obligations.WordStoreToTimerSwapsBytes : Prop :=
  ∀ (s : State) (a : Word) (r : Region), ownerOf s.cfg.regions a = some r → ownerOf s.cfg.regions (a + 1) = some r →
    r.mode = .deviceBacked (some .chip) →
    (∀ (t : State) (d : Dst) (i : Instr) (w : Word), eaDst s d = a →
      (i = .stx d ∧ w = s.x) ∨ (i = .sts d ∧ w = s.sp) → exec i s = .next t →
      let armed : Timer := ⟨join (lo8 w) (hi8 w), join (lo8 w) (hi8 w), true⟩
      (registerAt r a = 4 → registerAt r (a + 1) = 5 →
        t.via.t1 = armed ∧ t.via.ifr.getLsbD 6 = false ∧ t.via.t2 = s.via.t2 ∧ t.mem = s.mem) ∧
      (registerAt r a = 8 → registerAt r (a + 1) = 9 →
        t.via.t2 = armed ∧ t.via.ifr.getLsbD 5 = false ∧ t.via.t1 = s.via.t1 ∧ t.mem = s.mem)) ∧
    (registerAt r a = 4 → registerAt r (a + 1) = 5 →
      read16 s a = (join (lo8 s.via.t1.counter) (hi8 s.via.t1.counter), s.setVia { s.via with ifr := s.via.ifr &&& 0x3F }))
end

