-- ==== Sys2Proof/Laws/State.lean ====
section
/-! SUPPORT. One lemma per field per named update of State, and one per update done twice, true by rfl. -/

namespace Sys2Proof.Machine

@[simp] theorem State.setA_a (s : State) (v : Byte) : (s.setA v).a = v := rfl
@[simp] theorem State.setA_b (s : State) (v : Byte) : (s.setA v).b = s.b := rfl
@[simp] theorem State.setA_x (s : State) (v : Byte) : (s.setA v).x = s.x := rfl
@[simp] theorem State.setA_sp (s : State) (v : Byte) : (s.setA v).sp = s.sp := rfl
@[simp] theorem State.setA_pc (s : State) (v : Byte) : (s.setA v).pc = s.pc := rfl
@[simp] theorem State.setA_flags (s : State) (v : Byte) : (s.setA v).flags = s.flags := rfl
@[simp] theorem State.setA_resetPending (s : State) (v : Byte) : (s.setA v).resetPending = s.resetPending := rfl
@[simp] theorem State.setA_nmiPending (s : State) (v : Byte) : (s.setA v).nmiPending = s.nmiPending := rfl
@[simp] theorem State.setA_irqPending (s : State) (v : Byte) : (s.setA v).irqPending = s.irqPending := rfl
@[simp] theorem State.setA_halt (s : State) (v : Byte) : (s.setA v).halt = s.halt := rfl
@[simp] theorem State.setA_parked (s : State) (v : Byte) : (s.setA v).parked = s.parked := rfl
@[simp] theorem State.setA_via (s : State) (v : Byte) : (s.setA v).via = s.via := rfl
@[simp] theorem State.setA_mem (s : State) (v : Byte) : (s.setA v).mem = s.mem := rfl
@[simp] theorem State.setA_cycles (s : State) (v : Byte) : (s.setA v).cycles = s.cycles := rfl
@[simp] theorem State.setA_irqLinePrev (s : State) (v : Byte) : (s.setA v).irqLinePrev = s.irqLinePrev := rfl
@[simp] theorem State.setA_cfg (s : State) (v : Byte) : (s.setA v).cfg = s.cfg := rfl
@[simp] theorem State.setA_call (s : State) (v : Byte) : (s.setA v).call = s.call := rfl
@[simp] theorem State.setA_calls (s : State) (v : Byte) : (s.setA v).calls = s.calls := rfl
@[simp] theorem State.setA_chunk (s : State) (v : Byte) : (s.setA v).chunk = s.chunk := rfl
@[simp] theorem State.setA_outs (s : State) (v : Byte) : (s.setA v).outs = s.outs := rfl
@[simp] theorem State.setA_reactions (s : State) (v : Byte) : (s.setA v).reactions = s.reactions := rfl
@[simp] theorem State.setA_free (s : State) (v : Byte) : (s.setA v).free = s.free := rfl

@[simp] theorem State.setB_a (s : State) (v : Byte) : (s.setB v).a = s.a := rfl
@[simp] theorem State.setB_b (s : State) (v : Byte) : (s.setB v).b = v := rfl
@[simp] theorem State.setB_x (s : State) (v : Byte) : (s.setB v).x = s.x := rfl
@[simp] theorem State.setB_sp (s : State) (v : Byte) : (s.setB v).sp = s.sp := rfl
@[simp] theorem State.setB_pc (s : State) (v : Byte) : (s.setB v).pc = s.pc := rfl
@[simp] theorem State.setB_flags (s : State) (v : Byte) : (s.setB v).flags = s.flags := rfl
@[simp] theorem State.setB_resetPending (s : State) (v : Byte) : (s.setB v).resetPending = s.resetPending := rfl
@[simp] theorem State.setB_nmiPending (s : State) (v : Byte) : (s.setB v).nmiPending = s.nmiPending := rfl
@[simp] theorem State.setB_irqPending (s : State) (v : Byte) : (s.setB v).irqPending = s.irqPending := rfl
@[simp] theorem State.setB_halt (s : State) (v : Byte) : (s.setB v).halt = s.halt := rfl
@[simp] theorem State.setB_parked (s : State) (v : Byte) : (s.setB v).parked = s.parked := rfl
@[simp] theorem State.setB_via (s : State) (v : Byte) : (s.setB v).via = s.via := rfl
@[simp] theorem State.setB_mem (s : State) (v : Byte) : (s.setB v).mem = s.mem := rfl
@[simp] theorem State.setB_cycles (s : State) (v : Byte) : (s.setB v).cycles = s.cycles := rfl
@[simp] theorem State.setB_irqLinePrev (s : State) (v : Byte) : (s.setB v).irqLinePrev = s.irqLinePrev := rfl
@[simp] theorem State.setB_cfg (s : State) (v : Byte) : (s.setB v).cfg = s.cfg := rfl
@[simp] theorem State.setB_call (s : State) (v : Byte) : (s.setB v).call = s.call := rfl
@[simp] theorem State.setB_calls (s : State) (v : Byte) : (s.setB v).calls = s.calls := rfl
@[simp] theorem State.setB_chunk (s : State) (v : Byte) : (s.setB v).chunk = s.chunk := rfl
@[simp] theorem State.setB_outs (s : State) (v : Byte) : (s.setB v).outs = s.outs := rfl
@[simp] theorem State.setB_reactions (s : State) (v : Byte) : (s.setB v).reactions = s.reactions := rfl
@[simp] theorem State.setB_free (s : State) (v : Byte) : (s.setB v).free = s.free := rfl

@[simp] theorem State.setX_a (s : State) (w : Word) : (s.setX w).a = s.a := rfl
@[simp] theorem State.setX_b (s : State) (w : Word) : (s.setX w).b = s.b := rfl
@[simp] theorem State.setX_x (s : State) (w : Word) : (s.setX w).x = w := rfl
@[simp] theorem State.setX_sp (s : State) (w : Word) : (s.setX w).sp = s.sp := rfl
@[simp] theorem State.setX_pc (s : State) (w : Word) : (s.setX w).pc = s.pc := rfl
@[simp] theorem State.setX_flags (s : State) (w : Word) : (s.setX w).flags = s.flags := rfl
@[simp] theorem State.setX_resetPending (s : State) (w : Word) : (s.setX w).resetPending = s.resetPending := rfl
@[simp] theorem State.setX_nmiPending (s : State) (w : Word) : (s.setX w).nmiPending = s.nmiPending := rfl
@[simp] theorem State.setX_irqPending (s : State) (w : Word) : (s.setX w).irqPending = s.irqPending := rfl
@[simp] theorem State.setX_halt (s : State) (w : Word) : (s.setX w).halt = s.halt := rfl
@[simp] theorem State.setX_parked (s : State) (w : Word) : (s.setX w).parked = s.parked := rfl
@[simp] theorem State.setX_via (s : State) (w : Word) : (s.setX w).via = s.via := rfl
@[simp] theorem State.setX_mem (s : State) (w : Word) : (s.setX w).mem = s.mem := rfl
@[simp] theorem State.setX_cycles (s : State) (w : Word) : (s.setX w).cycles = s.cycles := rfl
@[simp] theorem State.setX_irqLinePrev (s : State) (w : Word) : (s.setX w).irqLinePrev = s.irqLinePrev := rfl
@[simp] theorem State.setX_cfg (s : State) (w : Word) : (s.setX w).cfg = s.cfg := rfl
@[simp] theorem State.setX_call (s : State) (w : Word) : (s.setX w).call = s.call := rfl
@[simp] theorem State.setX_calls (s : State) (w : Word) : (s.setX w).calls = s.calls := rfl
@[simp] theorem State.setX_chunk (s : State) (w : Word) : (s.setX w).chunk = s.chunk := rfl
@[simp] theorem State.setX_outs (s : State) (w : Word) : (s.setX w).outs = s.outs := rfl
@[simp] theorem State.setX_reactions (s : State) (w : Word) : (s.setX w).reactions = s.reactions := rfl
@[simp] theorem State.setX_free (s : State) (w : Word) : (s.setX w).free = s.free := rfl

@[simp] theorem State.setSp_a (s : State) (w : Word) : (s.setSp w).a = s.a := rfl
@[simp] theorem State.setSp_b (s : State) (w : Word) : (s.setSp w).b = s.b := rfl
@[simp] theorem State.setSp_x (s : State) (w : Word) : (s.setSp w).x = s.x := rfl
@[simp] theorem State.setSp_sp (s : State) (w : Word) : (s.setSp w).sp = w := rfl
@[simp] theorem State.setSp_pc (s : State) (w : Word) : (s.setSp w).pc = s.pc := rfl
@[simp] theorem State.setSp_flags (s : State) (w : Word) : (s.setSp w).flags = s.flags := rfl
@[simp] theorem State.setSp_resetPending (s : State) (w : Word) : (s.setSp w).resetPending = s.resetPending := rfl
@[simp] theorem State.setSp_nmiPending (s : State) (w : Word) : (s.setSp w).nmiPending = s.nmiPending := rfl
@[simp] theorem State.setSp_irqPending (s : State) (w : Word) : (s.setSp w).irqPending = s.irqPending := rfl
@[simp] theorem State.setSp_halt (s : State) (w : Word) : (s.setSp w).halt = s.halt := rfl
@[simp] theorem State.setSp_parked (s : State) (w : Word) : (s.setSp w).parked = s.parked := rfl
@[simp] theorem State.setSp_via (s : State) (w : Word) : (s.setSp w).via = s.via := rfl
@[simp] theorem State.setSp_mem (s : State) (w : Word) : (s.setSp w).mem = s.mem := rfl
@[simp] theorem State.setSp_cycles (s : State) (w : Word) : (s.setSp w).cycles = s.cycles := rfl
@[simp] theorem State.setSp_irqLinePrev (s : State) (w : Word) : (s.setSp w).irqLinePrev = s.irqLinePrev := rfl
@[simp] theorem State.setSp_cfg (s : State) (w : Word) : (s.setSp w).cfg = s.cfg := rfl
@[simp] theorem State.setSp_call (s : State) (w : Word) : (s.setSp w).call = s.call := rfl
@[simp] theorem State.setSp_calls (s : State) (w : Word) : (s.setSp w).calls = s.calls := rfl
@[simp] theorem State.setSp_chunk (s : State) (w : Word) : (s.setSp w).chunk = s.chunk := rfl
@[simp] theorem State.setSp_outs (s : State) (w : Word) : (s.setSp w).outs = s.outs := rfl
@[simp] theorem State.setSp_reactions (s : State) (w : Word) : (s.setSp w).reactions = s.reactions := rfl
@[simp] theorem State.setSp_free (s : State) (w : Word) : (s.setSp w).free = s.free := rfl

@[simp] theorem State.setPc_a (s : State) (w : Word) : (s.setPc w).a = s.a := rfl
@[simp] theorem State.setPc_b (s : State) (w : Word) : (s.setPc w).b = s.b := rfl
@[simp] theorem State.setPc_x (s : State) (w : Word) : (s.setPc w).x = s.x := rfl
@[simp] theorem State.setPc_sp (s : State) (w : Word) : (s.setPc w).sp = s.sp := rfl
@[simp] theorem State.setPc_pc (s : State) (w : Word) : (s.setPc w).pc = w := rfl
@[simp] theorem State.setPc_flags (s : State) (w : Word) : (s.setPc w).flags = s.flags := rfl
@[simp] theorem State.setPc_resetPending (s : State) (w : Word) : (s.setPc w).resetPending = s.resetPending := rfl
@[simp] theorem State.setPc_nmiPending (s : State) (w : Word) : (s.setPc w).nmiPending = s.nmiPending := rfl
@[simp] theorem State.setPc_irqPending (s : State) (w : Word) : (s.setPc w).irqPending = s.irqPending := rfl
@[simp] theorem State.setPc_halt (s : State) (w : Word) : (s.setPc w).halt = s.halt := rfl
@[simp] theorem State.setPc_parked (s : State) (w : Word) : (s.setPc w).parked = s.parked := rfl
@[simp] theorem State.setPc_via (s : State) (w : Word) : (s.setPc w).via = s.via := rfl
@[simp] theorem State.setPc_mem (s : State) (w : Word) : (s.setPc w).mem = s.mem := rfl
@[simp] theorem State.setPc_cycles (s : State) (w : Word) : (s.setPc w).cycles = s.cycles := rfl
@[simp] theorem State.setPc_irqLinePrev (s : State) (w : Word) : (s.setPc w).irqLinePrev = s.irqLinePrev := rfl
@[simp] theorem State.setPc_cfg (s : State) (w : Word) : (s.setPc w).cfg = s.cfg := rfl
@[simp] theorem State.setPc_call (s : State) (w : Word) : (s.setPc w).call = s.call := rfl
@[simp] theorem State.setPc_calls (s : State) (w : Word) : (s.setPc w).calls = s.calls := rfl
@[simp] theorem State.setPc_chunk (s : State) (w : Word) : (s.setPc w).chunk = s.chunk := rfl
@[simp] theorem State.setPc_outs (s : State) (w : Word) : (s.setPc w).outs = s.outs := rfl
@[simp] theorem State.setPc_reactions (s : State) (w : Word) : (s.setPc w).reactions = s.reactions := rfl
@[simp] theorem State.setPc_free (s : State) (w : Word) : (s.setPc w).free = s.free := rfl

@[simp] theorem State.setFlags_a (s : State) (f : Flags) : (s.setFlags f).a = s.a := rfl
@[simp] theorem State.setFlags_b (s : State) (f : Flags) : (s.setFlags f).b = s.b := rfl
@[simp] theorem State.setFlags_x (s : State) (f : Flags) : (s.setFlags f).x = s.x := rfl
@[simp] theorem State.setFlags_sp (s : State) (f : Flags) : (s.setFlags f).sp = s.sp := rfl
@[simp] theorem State.setFlags_pc (s : State) (f : Flags) : (s.setFlags f).pc = s.pc := rfl
@[simp] theorem State.setFlags_flags (s : State) (f : Flags) : (s.setFlags f).flags = f := rfl
@[simp] theorem State.setFlags_resetPending (s : State) (f : Flags) : (s.setFlags f).resetPending = s.resetPending := rfl
@[simp] theorem State.setFlags_nmiPending (s : State) (f : Flags) : (s.setFlags f).nmiPending = s.nmiPending := rfl
@[simp] theorem State.setFlags_irqPending (s : State) (f : Flags) : (s.setFlags f).irqPending = s.irqPending := rfl
@[simp] theorem State.setFlags_halt (s : State) (f : Flags) : (s.setFlags f).halt = s.halt := rfl
@[simp] theorem State.setFlags_parked (s : State) (f : Flags) : (s.setFlags f).parked = s.parked := rfl
@[simp] theorem State.setFlags_via (s : State) (f : Flags) : (s.setFlags f).via = s.via := rfl
@[simp] theorem State.setFlags_mem (s : State) (f : Flags) : (s.setFlags f).mem = s.mem := rfl
@[simp] theorem State.setFlags_cycles (s : State) (f : Flags) : (s.setFlags f).cycles = s.cycles := rfl
@[simp] theorem State.setFlags_irqLinePrev (s : State) (f : Flags) : (s.setFlags f).irqLinePrev = s.irqLinePrev := rfl
@[simp] theorem State.setFlags_cfg (s : State) (f : Flags) : (s.setFlags f).cfg = s.cfg := rfl
@[simp] theorem State.setFlags_call (s : State) (f : Flags) : (s.setFlags f).call = s.call := rfl
@[simp] theorem State.setFlags_calls (s : State) (f : Flags) : (s.setFlags f).calls = s.calls := rfl
@[simp] theorem State.setFlags_chunk (s : State) (f : Flags) : (s.setFlags f).chunk = s.chunk := rfl
@[simp] theorem State.setFlags_outs (s : State) (f : Flags) : (s.setFlags f).outs = s.outs := rfl
@[simp] theorem State.setFlags_reactions (s : State) (f : Flags) : (s.setFlags f).reactions = s.reactions := rfl
@[simp] theorem State.setFlags_free (s : State) (f : Flags) : (s.setFlags f).free = s.free := rfl

@[simp] theorem State.setResetPending_a (s : State) (v : Bool) : (s.setResetPending v).a = s.a := rfl
@[simp] theorem State.setResetPending_b (s : State) (v : Bool) : (s.setResetPending v).b = s.b := rfl
@[simp] theorem State.setResetPending_x (s : State) (v : Bool) : (s.setResetPending v).x = s.x := rfl
@[simp] theorem State.setResetPending_sp (s : State) (v : Bool) : (s.setResetPending v).sp = s.sp := rfl
@[simp] theorem State.setResetPending_pc (s : State) (v : Bool) : (s.setResetPending v).pc = s.pc := rfl
@[simp] theorem State.setResetPending_flags (s : State) (v : Bool) : (s.setResetPending v).flags = s.flags := rfl
@[simp] theorem State.setResetPending_resetPending (s : State) (v : Bool) : (s.setResetPending v).resetPending = v := rfl
@[simp] theorem State.setResetPending_nmiPending (s : State) (v : Bool) : (s.setResetPending v).nmiPending = s.nmiPending := rfl
@[simp] theorem State.setResetPending_irqPending (s : State) (v : Bool) : (s.setResetPending v).irqPending = s.irqPending := rfl
@[simp] theorem State.setResetPending_halt (s : State) (v : Bool) : (s.setResetPending v).halt = s.halt := rfl
@[simp] theorem State.setResetPending_parked (s : State) (v : Bool) : (s.setResetPending v).parked = s.parked := rfl
@[simp] theorem State.setResetPending_via (s : State) (v : Bool) : (s.setResetPending v).via = s.via := rfl
@[simp] theorem State.setResetPending_mem (s : State) (v : Bool) : (s.setResetPending v).mem = s.mem := rfl
@[simp] theorem State.setResetPending_cycles (s : State) (v : Bool) : (s.setResetPending v).cycles = s.cycles := rfl
@[simp] theorem State.setResetPending_irqLinePrev (s : State) (v : Bool) : (s.setResetPending v).irqLinePrev = s.irqLinePrev := rfl
@[simp] theorem State.setResetPending_cfg (s : State) (v : Bool) : (s.setResetPending v).cfg = s.cfg := rfl
@[simp] theorem State.setResetPending_call (s : State) (v : Bool) : (s.setResetPending v).call = s.call := rfl
@[simp] theorem State.setResetPending_calls (s : State) (v : Bool) : (s.setResetPending v).calls = s.calls := rfl
@[simp] theorem State.setResetPending_chunk (s : State) (v : Bool) : (s.setResetPending v).chunk = s.chunk := rfl
@[simp] theorem State.setResetPending_outs (s : State) (v : Bool) : (s.setResetPending v).outs = s.outs := rfl
@[simp] theorem State.setResetPending_reactions (s : State) (v : Bool) : (s.setResetPending v).reactions = s.reactions := rfl
@[simp] theorem State.setResetPending_free (s : State) (v : Bool) : (s.setResetPending v).free = s.free := rfl

@[simp] theorem State.setNmiPending_a (s : State) (v : Bool) : (s.setNmiPending v).a = s.a := rfl
@[simp] theorem State.setNmiPending_b (s : State) (v : Bool) : (s.setNmiPending v).b = s.b := rfl
@[simp] theorem State.setNmiPending_x (s : State) (v : Bool) : (s.setNmiPending v).x = s.x := rfl
@[simp] theorem State.setNmiPending_sp (s : State) (v : Bool) : (s.setNmiPending v).sp = s.sp := rfl
@[simp] theorem State.setNmiPending_pc (s : State) (v : Bool) : (s.setNmiPending v).pc = s.pc := rfl
@[simp] theorem State.setNmiPending_flags (s : State) (v : Bool) : (s.setNmiPending v).flags = s.flags := rfl
@[simp] theorem State.setNmiPending_resetPending (s : State) (v : Bool) : (s.setNmiPending v).resetPending = s.resetPending := rfl
@[simp] theorem State.setNmiPending_nmiPending (s : State) (v : Bool) : (s.setNmiPending v).nmiPending = v := rfl
@[simp] theorem State.setNmiPending_irqPending (s : State) (v : Bool) : (s.setNmiPending v).irqPending = s.irqPending := rfl
@[simp] theorem State.setNmiPending_halt (s : State) (v : Bool) : (s.setNmiPending v).halt = s.halt := rfl
@[simp] theorem State.setNmiPending_parked (s : State) (v : Bool) : (s.setNmiPending v).parked = s.parked := rfl
@[simp] theorem State.setNmiPending_via (s : State) (v : Bool) : (s.setNmiPending v).via = s.via := rfl
@[simp] theorem State.setNmiPending_mem (s : State) (v : Bool) : (s.setNmiPending v).mem = s.mem := rfl
@[simp] theorem State.setNmiPending_cycles (s : State) (v : Bool) : (s.setNmiPending v).cycles = s.cycles := rfl
@[simp] theorem State.setNmiPending_irqLinePrev (s : State) (v : Bool) : (s.setNmiPending v).irqLinePrev = s.irqLinePrev := rfl
@[simp] theorem State.setNmiPending_cfg (s : State) (v : Bool) : (s.setNmiPending v).cfg = s.cfg := rfl
@[simp] theorem State.setNmiPending_call (s : State) (v : Bool) : (s.setNmiPending v).call = s.call := rfl
@[simp] theorem State.setNmiPending_calls (s : State) (v : Bool) : (s.setNmiPending v).calls = s.calls := rfl
@[simp] theorem State.setNmiPending_chunk (s : State) (v : Bool) : (s.setNmiPending v).chunk = s.chunk := rfl
@[simp] theorem State.setNmiPending_outs (s : State) (v : Bool) : (s.setNmiPending v).outs = s.outs := rfl
@[simp] theorem State.setNmiPending_reactions (s : State) (v : Bool) : (s.setNmiPending v).reactions = s.reactions := rfl
@[simp] theorem State.setNmiPending_free (s : State) (v : Bool) : (s.setNmiPending v).free = s.free := rfl

@[simp] theorem State.setIrqPending_a (s : State) (v : Bool) : (s.setIrqPending v).a = s.a := rfl
@[simp] theorem State.setIrqPending_b (s : State) (v : Bool) : (s.setIrqPending v).b = s.b := rfl
@[simp] theorem State.setIrqPending_x (s : State) (v : Bool) : (s.setIrqPending v).x = s.x := rfl
@[simp] theorem State.setIrqPending_sp (s : State) (v : Bool) : (s.setIrqPending v).sp = s.sp := rfl
@[simp] theorem State.setIrqPending_pc (s : State) (v : Bool) : (s.setIrqPending v).pc = s.pc := rfl
@[simp] theorem State.setIrqPending_flags (s : State) (v : Bool) : (s.setIrqPending v).flags = s.flags := rfl
@[simp] theorem State.setIrqPending_resetPending (s : State) (v : Bool) : (s.setIrqPending v).resetPending = s.resetPending := rfl
@[simp] theorem State.setIrqPending_nmiPending (s : State) (v : Bool) : (s.setIrqPending v).nmiPending = s.nmiPending := rfl
@[simp] theorem State.setIrqPending_irqPending (s : State) (v : Bool) : (s.setIrqPending v).irqPending = v := rfl
@[simp] theorem State.setIrqPending_halt (s : State) (v : Bool) : (s.setIrqPending v).halt = s.halt := rfl
@[simp] theorem State.setIrqPending_parked (s : State) (v : Bool) : (s.setIrqPending v).parked = s.parked := rfl
@[simp] theorem State.setIrqPending_via (s : State) (v : Bool) : (s.setIrqPending v).via = s.via := rfl
@[simp] theorem State.setIrqPending_mem (s : State) (v : Bool) : (s.setIrqPending v).mem = s.mem := rfl
@[simp] theorem State.setIrqPending_cycles (s : State) (v : Bool) : (s.setIrqPending v).cycles = s.cycles := rfl
@[simp] theorem State.setIrqPending_irqLinePrev (s : State) (v : Bool) : (s.setIrqPending v).irqLinePrev = s.irqLinePrev := rfl
@[simp] theorem State.setIrqPending_cfg (s : State) (v : Bool) : (s.setIrqPending v).cfg = s.cfg := rfl
@[simp] theorem State.setIrqPending_call (s : State) (v : Bool) : (s.setIrqPending v).call = s.call := rfl
@[simp] theorem State.setIrqPending_calls (s : State) (v : Bool) : (s.setIrqPending v).calls = s.calls := rfl
@[simp] theorem State.setIrqPending_chunk (s : State) (v : Bool) : (s.setIrqPending v).chunk = s.chunk := rfl
@[simp] theorem State.setIrqPending_outs (s : State) (v : Bool) : (s.setIrqPending v).outs = s.outs := rfl
@[simp] theorem State.setIrqPending_reactions (s : State) (v : Bool) : (s.setIrqPending v).reactions = s.reactions := rfl
@[simp] theorem State.setIrqPending_free (s : State) (v : Bool) : (s.setIrqPending v).free = s.free := rfl

@[simp] theorem State.setHalt_a (s : State) (v : Bool) : (s.setHalt v).a = s.a := rfl
@[simp] theorem State.setHalt_b (s : State) (v : Bool) : (s.setHalt v).b = s.b := rfl
@[simp] theorem State.setHalt_x (s : State) (v : Bool) : (s.setHalt v).x = s.x := rfl
@[simp] theorem State.setHalt_sp (s : State) (v : Bool) : (s.setHalt v).sp = s.sp := rfl
@[simp] theorem State.setHalt_pc (s : State) (v : Bool) : (s.setHalt v).pc = s.pc := rfl
@[simp] theorem State.setHalt_flags (s : State) (v : Bool) : (s.setHalt v).flags = s.flags := rfl
@[simp] theorem State.setHalt_resetPending (s : State) (v : Bool) : (s.setHalt v).resetPending = s.resetPending := rfl
@[simp] theorem State.setHalt_nmiPending (s : State) (v : Bool) : (s.setHalt v).nmiPending = s.nmiPending := rfl
@[simp] theorem State.setHalt_irqPending (s : State) (v : Bool) : (s.setHalt v).irqPending = s.irqPending := rfl
@[simp] theorem State.setHalt_halt (s : State) (v : Bool) : (s.setHalt v).halt = v := rfl
@[simp] theorem State.setHalt_parked (s : State) (v : Bool) : (s.setHalt v).parked = s.parked := rfl
@[simp] theorem State.setHalt_via (s : State) (v : Bool) : (s.setHalt v).via = s.via := rfl
@[simp] theorem State.setHalt_mem (s : State) (v : Bool) : (s.setHalt v).mem = s.mem := rfl
@[simp] theorem State.setHalt_cycles (s : State) (v : Bool) : (s.setHalt v).cycles = s.cycles := rfl
@[simp] theorem State.setHalt_irqLinePrev (s : State) (v : Bool) : (s.setHalt v).irqLinePrev = s.irqLinePrev := rfl
@[simp] theorem State.setHalt_cfg (s : State) (v : Bool) : (s.setHalt v).cfg = s.cfg := rfl
@[simp] theorem State.setHalt_call (s : State) (v : Bool) : (s.setHalt v).call = s.call := rfl
@[simp] theorem State.setHalt_calls (s : State) (v : Bool) : (s.setHalt v).calls = s.calls := rfl
@[simp] theorem State.setHalt_chunk (s : State) (v : Bool) : (s.setHalt v).chunk = s.chunk := rfl
@[simp] theorem State.setHalt_outs (s : State) (v : Bool) : (s.setHalt v).outs = s.outs := rfl
@[simp] theorem State.setHalt_reactions (s : State) (v : Bool) : (s.setHalt v).reactions = s.reactions := rfl
@[simp] theorem State.setHalt_free (s : State) (v : Bool) : (s.setHalt v).free = s.free := rfl

@[simp] theorem State.setParked_a (s : State) (v : Bool) : (s.setParked v).a = s.a := rfl
@[simp] theorem State.setParked_b (s : State) (v : Bool) : (s.setParked v).b = s.b := rfl
@[simp] theorem State.setParked_x (s : State) (v : Bool) : (s.setParked v).x = s.x := rfl
@[simp] theorem State.setParked_sp (s : State) (v : Bool) : (s.setParked v).sp = s.sp := rfl
@[simp] theorem State.setParked_pc (s : State) (v : Bool) : (s.setParked v).pc = s.pc := rfl
@[simp] theorem State.setParked_flags (s : State) (v : Bool) : (s.setParked v).flags = s.flags := rfl
@[simp] theorem State.setParked_resetPending (s : State) (v : Bool) : (s.setParked v).resetPending = s.resetPending := rfl
@[simp] theorem State.setParked_nmiPending (s : State) (v : Bool) : (s.setParked v).nmiPending = s.nmiPending := rfl
@[simp] theorem State.setParked_irqPending (s : State) (v : Bool) : (s.setParked v).irqPending = s.irqPending := rfl
@[simp] theorem State.setParked_halt (s : State) (v : Bool) : (s.setParked v).halt = s.halt := rfl
@[simp] theorem State.setParked_parked (s : State) (v : Bool) : (s.setParked v).parked = v := rfl
@[simp] theorem State.setParked_via (s : State) (v : Bool) : (s.setParked v).via = s.via := rfl
@[simp] theorem State.setParked_mem (s : State) (v : Bool) : (s.setParked v).mem = s.mem := rfl
@[simp] theorem State.setParked_cycles (s : State) (v : Bool) : (s.setParked v).cycles = s.cycles := rfl
@[simp] theorem State.setParked_irqLinePrev (s : State) (v : Bool) : (s.setParked v).irqLinePrev = s.irqLinePrev := rfl
@[simp] theorem State.setParked_cfg (s : State) (v : Bool) : (s.setParked v).cfg = s.cfg := rfl
@[simp] theorem State.setParked_call (s : State) (v : Bool) : (s.setParked v).call = s.call := rfl
@[simp] theorem State.setParked_calls (s : State) (v : Bool) : (s.setParked v).calls = s.calls := rfl
@[simp] theorem State.setParked_chunk (s : State) (v : Bool) : (s.setParked v).chunk = s.chunk := rfl
@[simp] theorem State.setParked_outs (s : State) (v : Bool) : (s.setParked v).outs = s.outs := rfl
@[simp] theorem State.setParked_reactions (s : State) (v : Bool) : (s.setParked v).reactions = s.reactions := rfl
@[simp] theorem State.setParked_free (s : State) (v : Bool) : (s.setParked v).free = s.free := rfl

@[simp] theorem State.setVia_a (s : State) (v : Via) : (s.setVia v).a = s.a := rfl
@[simp] theorem State.setVia_b (s : State) (v : Via) : (s.setVia v).b = s.b := rfl
@[simp] theorem State.setVia_x (s : State) (v : Via) : (s.setVia v).x = s.x := rfl
@[simp] theorem State.setVia_sp (s : State) (v : Via) : (s.setVia v).sp = s.sp := rfl
@[simp] theorem State.setVia_pc (s : State) (v : Via) : (s.setVia v).pc = s.pc := rfl
@[simp] theorem State.setVia_flags (s : State) (v : Via) : (s.setVia v).flags = s.flags := rfl
@[simp] theorem State.setVia_resetPending (s : State) (v : Via) : (s.setVia v).resetPending = s.resetPending := rfl
@[simp] theorem State.setVia_nmiPending (s : State) (v : Via) : (s.setVia v).nmiPending = s.nmiPending := rfl
@[simp] theorem State.setVia_irqPending (s : State) (v : Via) : (s.setVia v).irqPending = s.irqPending := rfl
@[simp] theorem State.setVia_halt (s : State) (v : Via) : (s.setVia v).halt = s.halt := rfl
@[simp] theorem State.setVia_parked (s : State) (v : Via) : (s.setVia v).parked = s.parked := rfl
@[simp] theorem State.setVia_via (s : State) (v : Via) : (s.setVia v).via = v := rfl
@[simp] theorem State.setVia_mem (s : State) (v : Via) : (s.setVia v).mem = s.mem := rfl
@[simp] theorem State.setVia_cycles (s : State) (v : Via) : (s.setVia v).cycles = s.cycles := rfl
@[simp] theorem State.setVia_irqLinePrev (s : State) (v : Via) : (s.setVia v).irqLinePrev = s.irqLinePrev := rfl
@[simp] theorem State.setVia_cfg (s : State) (v : Via) : (s.setVia v).cfg = s.cfg := rfl
@[simp] theorem State.setVia_call (s : State) (v : Via) : (s.setVia v).call = s.call := rfl
@[simp] theorem State.setVia_calls (s : State) (v : Via) : (s.setVia v).calls = s.calls := rfl
@[simp] theorem State.setVia_chunk (s : State) (v : Via) : (s.setVia v).chunk = s.chunk := rfl
@[simp] theorem State.setVia_outs (s : State) (v : Via) : (s.setVia v).outs = s.outs := rfl
@[simp] theorem State.setVia_reactions (s : State) (v : Via) : (s.setVia v).reactions = s.reactions := rfl
@[simp] theorem State.setVia_free (s : State) (v : Via) : (s.setVia v).free = s.free := rfl

@[simp] theorem State.setMem_a (s : State) (m : List Host.Cell) : (s.setMem m).a = s.a := rfl
@[simp] theorem State.setMem_b (s : State) (m : List Host.Cell) : (s.setMem m).b = s.b := rfl
@[simp] theorem State.setMem_x (s : State) (m : List Host.Cell) : (s.setMem m).x = s.x := rfl
@[simp] theorem State.setMem_sp (s : State) (m : List Host.Cell) : (s.setMem m).sp = s.sp := rfl
@[simp] theorem State.setMem_pc (s : State) (m : List Host.Cell) : (s.setMem m).pc = s.pc := rfl
@[simp] theorem State.setMem_flags (s : State) (m : List Host.Cell) : (s.setMem m).flags = s.flags := rfl
@[simp] theorem State.setMem_resetPending (s : State) (m : List Host.Cell) : (s.setMem m).resetPending = s.resetPending := rfl
@[simp] theorem State.setMem_nmiPending (s : State) (m : List Host.Cell) : (s.setMem m).nmiPending = s.nmiPending := rfl
@[simp] theorem State.setMem_irqPending (s : State) (m : List Host.Cell) : (s.setMem m).irqPending = s.irqPending := rfl
@[simp] theorem State.setMem_halt (s : State) (m : List Host.Cell) : (s.setMem m).halt = s.halt := rfl
@[simp] theorem State.setMem_parked (s : State) (m : List Host.Cell) : (s.setMem m).parked = s.parked := rfl
@[simp] theorem State.setMem_via (s : State) (m : List Host.Cell) : (s.setMem m).via = s.via := rfl
@[simp] theorem State.setMem_mem (s : State) (m : List Host.Cell) : (s.setMem m).mem = m := rfl
@[simp] theorem State.setMem_cycles (s : State) (m : List Host.Cell) : (s.setMem m).cycles = s.cycles := rfl
@[simp] theorem State.setMem_irqLinePrev (s : State) (m : List Host.Cell) : (s.setMem m).irqLinePrev = s.irqLinePrev := rfl
@[simp] theorem State.setMem_cfg (s : State) (m : List Host.Cell) : (s.setMem m).cfg = s.cfg := rfl
@[simp] theorem State.setMem_call (s : State) (m : List Host.Cell) : (s.setMem m).call = s.call := rfl
@[simp] theorem State.setMem_calls (s : State) (m : List Host.Cell) : (s.setMem m).calls = s.calls := rfl
@[simp] theorem State.setMem_chunk (s : State) (m : List Host.Cell) : (s.setMem m).chunk = s.chunk := rfl
@[simp] theorem State.setMem_outs (s : State) (m : List Host.Cell) : (s.setMem m).outs = s.outs := rfl
@[simp] theorem State.setMem_reactions (s : State) (m : List Host.Cell) : (s.setMem m).reactions = s.reactions := rfl
@[simp] theorem State.setMem_free (s : State) (m : List Host.Cell) : (s.setMem m).free = s.free := rfl

@[simp] theorem State.setCycles_a (s : State) (n : Nat) : (s.setCycles n).a = s.a := rfl
@[simp] theorem State.setCycles_b (s : State) (n : Nat) : (s.setCycles n).b = s.b := rfl
@[simp] theorem State.setCycles_x (s : State) (n : Nat) : (s.setCycles n).x = s.x := rfl
@[simp] theorem State.setCycles_sp (s : State) (n : Nat) : (s.setCycles n).sp = s.sp := rfl
@[simp] theorem State.setCycles_pc (s : State) (n : Nat) : (s.setCycles n).pc = s.pc := rfl
@[simp] theorem State.setCycles_flags (s : State) (n : Nat) : (s.setCycles n).flags = s.flags := rfl
@[simp] theorem State.setCycles_resetPending (s : State) (n : Nat) : (s.setCycles n).resetPending = s.resetPending := rfl
@[simp] theorem State.setCycles_nmiPending (s : State) (n : Nat) : (s.setCycles n).nmiPending = s.nmiPending := rfl
@[simp] theorem State.setCycles_irqPending (s : State) (n : Nat) : (s.setCycles n).irqPending = s.irqPending := rfl
@[simp] theorem State.setCycles_halt (s : State) (n : Nat) : (s.setCycles n).halt = s.halt := rfl
@[simp] theorem State.setCycles_parked (s : State) (n : Nat) : (s.setCycles n).parked = s.parked := rfl
@[simp] theorem State.setCycles_via (s : State) (n : Nat) : (s.setCycles n).via = s.via := rfl
@[simp] theorem State.setCycles_mem (s : State) (n : Nat) : (s.setCycles n).mem = s.mem := rfl
@[simp] theorem State.setCycles_cycles (s : State) (n : Nat) : (s.setCycles n).cycles = n := rfl
@[simp] theorem State.setCycles_irqLinePrev (s : State) (n : Nat) : (s.setCycles n).irqLinePrev = s.irqLinePrev := rfl
@[simp] theorem State.setCycles_cfg (s : State) (n : Nat) : (s.setCycles n).cfg = s.cfg := rfl
@[simp] theorem State.setCycles_call (s : State) (n : Nat) : (s.setCycles n).call = s.call := rfl
@[simp] theorem State.setCycles_calls (s : State) (n : Nat) : (s.setCycles n).calls = s.calls := rfl
@[simp] theorem State.setCycles_chunk (s : State) (n : Nat) : (s.setCycles n).chunk = s.chunk := rfl
@[simp] theorem State.setCycles_outs (s : State) (n : Nat) : (s.setCycles n).outs = s.outs := rfl
@[simp] theorem State.setCycles_reactions (s : State) (n : Nat) : (s.setCycles n).reactions = s.reactions := rfl
@[simp] theorem State.setCycles_free (s : State) (n : Nat) : (s.setCycles n).free = s.free := rfl

@[simp] theorem State.setIrqLinePrev_a (s : State) (v : Bool) : (s.setIrqLinePrev v).a = s.a := rfl
@[simp] theorem State.setIrqLinePrev_b (s : State) (v : Bool) : (s.setIrqLinePrev v).b = s.b := rfl
@[simp] theorem State.setIrqLinePrev_x (s : State) (v : Bool) : (s.setIrqLinePrev v).x = s.x := rfl
@[simp] theorem State.setIrqLinePrev_sp (s : State) (v : Bool) : (s.setIrqLinePrev v).sp = s.sp := rfl
@[simp] theorem State.setIrqLinePrev_pc (s : State) (v : Bool) : (s.setIrqLinePrev v).pc = s.pc := rfl
@[simp] theorem State.setIrqLinePrev_flags (s : State) (v : Bool) : (s.setIrqLinePrev v).flags = s.flags := rfl
@[simp] theorem State.setIrqLinePrev_resetPending (s : State) (v : Bool) : (s.setIrqLinePrev v).resetPending = s.resetPending := rfl
@[simp] theorem State.setIrqLinePrev_nmiPending (s : State) (v : Bool) : (s.setIrqLinePrev v).nmiPending = s.nmiPending := rfl
@[simp] theorem State.setIrqLinePrev_irqPending (s : State) (v : Bool) : (s.setIrqLinePrev v).irqPending = s.irqPending := rfl
@[simp] theorem State.setIrqLinePrev_halt (s : State) (v : Bool) : (s.setIrqLinePrev v).halt = s.halt := rfl
@[simp] theorem State.setIrqLinePrev_parked (s : State) (v : Bool) : (s.setIrqLinePrev v).parked = s.parked := rfl
@[simp] theorem State.setIrqLinePrev_via (s : State) (v : Bool) : (s.setIrqLinePrev v).via = s.via := rfl
@[simp] theorem State.setIrqLinePrev_mem (s : State) (v : Bool) : (s.setIrqLinePrev v).mem = s.mem := rfl
@[simp] theorem State.setIrqLinePrev_cycles (s : State) (v : Bool) : (s.setIrqLinePrev v).cycles = s.cycles := rfl
@[simp] theorem State.setIrqLinePrev_irqLinePrev (s : State) (v : Bool) : (s.setIrqLinePrev v).irqLinePrev = v := rfl
@[simp] theorem State.setIrqLinePrev_cfg (s : State) (v : Bool) : (s.setIrqLinePrev v).cfg = s.cfg := rfl
@[simp] theorem State.setIrqLinePrev_call (s : State) (v : Bool) : (s.setIrqLinePrev v).call = s.call := rfl
@[simp] theorem State.setIrqLinePrev_calls (s : State) (v : Bool) : (s.setIrqLinePrev v).calls = s.calls := rfl
@[simp] theorem State.setIrqLinePrev_chunk (s : State) (v : Bool) : (s.setIrqLinePrev v).chunk = s.chunk := rfl
@[simp] theorem State.setIrqLinePrev_outs (s : State) (v : Bool) : (s.setIrqLinePrev v).outs = s.outs := rfl
@[simp] theorem State.setIrqLinePrev_reactions (s : State) (v : Bool) : (s.setIrqLinePrev v).reactions = s.reactions := rfl
@[simp] theorem State.setIrqLinePrev_free (s : State) (v : Bool) : (s.setIrqLinePrev v).free = s.free := rfl

@[simp] theorem State.setCall_a (s : State) (c : Option Call) : (s.setCall c).a = s.a := rfl
@[simp] theorem State.setCall_b (s : State) (c : Option Call) : (s.setCall c).b = s.b := rfl
@[simp] theorem State.setCall_x (s : State) (c : Option Call) : (s.setCall c).x = s.x := rfl
@[simp] theorem State.setCall_sp (s : State) (c : Option Call) : (s.setCall c).sp = s.sp := rfl
@[simp] theorem State.setCall_pc (s : State) (c : Option Call) : (s.setCall c).pc = s.pc := rfl
@[simp] theorem State.setCall_flags (s : State) (c : Option Call) : (s.setCall c).flags = s.flags := rfl
@[simp] theorem State.setCall_resetPending (s : State) (c : Option Call) : (s.setCall c).resetPending = s.resetPending := rfl
@[simp] theorem State.setCall_nmiPending (s : State) (c : Option Call) : (s.setCall c).nmiPending = s.nmiPending := rfl
@[simp] theorem State.setCall_irqPending (s : State) (c : Option Call) : (s.setCall c).irqPending = s.irqPending := rfl
@[simp] theorem State.setCall_halt (s : State) (c : Option Call) : (s.setCall c).halt = s.halt := rfl
@[simp] theorem State.setCall_parked (s : State) (c : Option Call) : (s.setCall c).parked = s.parked := rfl
@[simp] theorem State.setCall_via (s : State) (c : Option Call) : (s.setCall c).via = s.via := rfl
@[simp] theorem State.setCall_mem (s : State) (c : Option Call) : (s.setCall c).mem = s.mem := rfl
@[simp] theorem State.setCall_cycles (s : State) (c : Option Call) : (s.setCall c).cycles = s.cycles := rfl
@[simp] theorem State.setCall_irqLinePrev (s : State) (c : Option Call) : (s.setCall c).irqLinePrev = s.irqLinePrev := rfl
@[simp] theorem State.setCall_cfg (s : State) (c : Option Call) : (s.setCall c).cfg = s.cfg := rfl
@[simp] theorem State.setCall_call (s : State) (c : Option Call) : (s.setCall c).call = c := rfl
@[simp] theorem State.setCall_calls (s : State) (c : Option Call) : (s.setCall c).calls = s.calls := rfl
@[simp] theorem State.setCall_chunk (s : State) (c : Option Call) : (s.setCall c).chunk = s.chunk := rfl
@[simp] theorem State.setCall_outs (s : State) (c : Option Call) : (s.setCall c).outs = s.outs := rfl
@[simp] theorem State.setCall_reactions (s : State) (c : Option Call) : (s.setCall c).reactions = s.reactions := rfl
@[simp] theorem State.setCall_free (s : State) (c : Option Call) : (s.setCall c).free = s.free := rfl

@[simp] theorem State.setCalls_a (s : State) (cs : List HostCall) : (s.setCalls cs).a = s.a := rfl
@[simp] theorem State.setCalls_b (s : State) (cs : List HostCall) : (s.setCalls cs).b = s.b := rfl
@[simp] theorem State.setCalls_x (s : State) (cs : List HostCall) : (s.setCalls cs).x = s.x := rfl
@[simp] theorem State.setCalls_sp (s : State) (cs : List HostCall) : (s.setCalls cs).sp = s.sp := rfl
@[simp] theorem State.setCalls_pc (s : State) (cs : List HostCall) : (s.setCalls cs).pc = s.pc := rfl
@[simp] theorem State.setCalls_flags (s : State) (cs : List HostCall) : (s.setCalls cs).flags = s.flags := rfl
@[simp] theorem State.setCalls_resetPending (s : State) (cs : List HostCall) : (s.setCalls cs).resetPending = s.resetPending := rfl
@[simp] theorem State.setCalls_nmiPending (s : State) (cs : List HostCall) : (s.setCalls cs).nmiPending = s.nmiPending := rfl
@[simp] theorem State.setCalls_irqPending (s : State) (cs : List HostCall) : (s.setCalls cs).irqPending = s.irqPending := rfl
@[simp] theorem State.setCalls_halt (s : State) (cs : List HostCall) : (s.setCalls cs).halt = s.halt := rfl
@[simp] theorem State.setCalls_parked (s : State) (cs : List HostCall) : (s.setCalls cs).parked = s.parked := rfl
@[simp] theorem State.setCalls_via (s : State) (cs : List HostCall) : (s.setCalls cs).via = s.via := rfl
@[simp] theorem State.setCalls_mem (s : State) (cs : List HostCall) : (s.setCalls cs).mem = s.mem := rfl
@[simp] theorem State.setCalls_cycles (s : State) (cs : List HostCall) : (s.setCalls cs).cycles = s.cycles := rfl
@[simp] theorem State.setCalls_irqLinePrev (s : State) (cs : List HostCall) : (s.setCalls cs).irqLinePrev = s.irqLinePrev := rfl
@[simp] theorem State.setCalls_cfg (s : State) (cs : List HostCall) : (s.setCalls cs).cfg = s.cfg := rfl
@[simp] theorem State.setCalls_call (s : State) (cs : List HostCall) : (s.setCalls cs).call = s.call := rfl
@[simp] theorem State.setCalls_calls (s : State) (cs : List HostCall) : (s.setCalls cs).calls = cs := rfl
@[simp] theorem State.setCalls_chunk (s : State) (cs : List HostCall) : (s.setCalls cs).chunk = s.chunk := rfl
@[simp] theorem State.setCalls_outs (s : State) (cs : List HostCall) : (s.setCalls cs).outs = s.outs := rfl
@[simp] theorem State.setCalls_reactions (s : State) (cs : List HostCall) : (s.setCalls cs).reactions = s.reactions := rfl
@[simp] theorem State.setCalls_free (s : State) (cs : List HostCall) : (s.setCalls cs).free = s.free := rfl

@[simp] theorem State.setChunk_a (s : State) (n : Nat) : (s.setChunk n).a = s.a := rfl
@[simp] theorem State.setChunk_b (s : State) (n : Nat) : (s.setChunk n).b = s.b := rfl
@[simp] theorem State.setChunk_x (s : State) (n : Nat) : (s.setChunk n).x = s.x := rfl
@[simp] theorem State.setChunk_sp (s : State) (n : Nat) : (s.setChunk n).sp = s.sp := rfl
@[simp] theorem State.setChunk_pc (s : State) (n : Nat) : (s.setChunk n).pc = s.pc := rfl
@[simp] theorem State.setChunk_flags (s : State) (n : Nat) : (s.setChunk n).flags = s.flags := rfl
@[simp] theorem State.setChunk_resetPending (s : State) (n : Nat) : (s.setChunk n).resetPending = s.resetPending := rfl
@[simp] theorem State.setChunk_nmiPending (s : State) (n : Nat) : (s.setChunk n).nmiPending = s.nmiPending := rfl
@[simp] theorem State.setChunk_irqPending (s : State) (n : Nat) : (s.setChunk n).irqPending = s.irqPending := rfl
@[simp] theorem State.setChunk_halt (s : State) (n : Nat) : (s.setChunk n).halt = s.halt := rfl
@[simp] theorem State.setChunk_parked (s : State) (n : Nat) : (s.setChunk n).parked = s.parked := rfl
@[simp] theorem State.setChunk_via (s : State) (n : Nat) : (s.setChunk n).via = s.via := rfl
@[simp] theorem State.setChunk_mem (s : State) (n : Nat) : (s.setChunk n).mem = s.mem := rfl
@[simp] theorem State.setChunk_cycles (s : State) (n : Nat) : (s.setChunk n).cycles = s.cycles := rfl
@[simp] theorem State.setChunk_irqLinePrev (s : State) (n : Nat) : (s.setChunk n).irqLinePrev = s.irqLinePrev := rfl
@[simp] theorem State.setChunk_cfg (s : State) (n : Nat) : (s.setChunk n).cfg = s.cfg := rfl
@[simp] theorem State.setChunk_call (s : State) (n : Nat) : (s.setChunk n).call = s.call := rfl
@[simp] theorem State.setChunk_calls (s : State) (n : Nat) : (s.setChunk n).calls = s.calls := rfl
@[simp] theorem State.setChunk_chunk (s : State) (n : Nat) : (s.setChunk n).chunk = n := rfl
@[simp] theorem State.setChunk_outs (s : State) (n : Nat) : (s.setChunk n).outs = s.outs := rfl
@[simp] theorem State.setChunk_reactions (s : State) (n : Nat) : (s.setChunk n).reactions = s.reactions := rfl
@[simp] theorem State.setChunk_free (s : State) (n : Nat) : (s.setChunk n).free = s.free := rfl

@[simp] theorem State.setOuts_a (s : State) (os : List Output) : (s.setOuts os).a = s.a := rfl
@[simp] theorem State.setOuts_b (s : State) (os : List Output) : (s.setOuts os).b = s.b := rfl
@[simp] theorem State.setOuts_x (s : State) (os : List Output) : (s.setOuts os).x = s.x := rfl
@[simp] theorem State.setOuts_sp (s : State) (os : List Output) : (s.setOuts os).sp = s.sp := rfl
@[simp] theorem State.setOuts_pc (s : State) (os : List Output) : (s.setOuts os).pc = s.pc := rfl
@[simp] theorem State.setOuts_flags (s : State) (os : List Output) : (s.setOuts os).flags = s.flags := rfl
@[simp] theorem State.setOuts_resetPending (s : State) (os : List Output) : (s.setOuts os).resetPending = s.resetPending := rfl
@[simp] theorem State.setOuts_nmiPending (s : State) (os : List Output) : (s.setOuts os).nmiPending = s.nmiPending := rfl
@[simp] theorem State.setOuts_irqPending (s : State) (os : List Output) : (s.setOuts os).irqPending = s.irqPending := rfl
@[simp] theorem State.setOuts_halt (s : State) (os : List Output) : (s.setOuts os).halt = s.halt := rfl
@[simp] theorem State.setOuts_parked (s : State) (os : List Output) : (s.setOuts os).parked = s.parked := rfl
@[simp] theorem State.setOuts_via (s : State) (os : List Output) : (s.setOuts os).via = s.via := rfl
@[simp] theorem State.setOuts_mem (s : State) (os : List Output) : (s.setOuts os).mem = s.mem := rfl
@[simp] theorem State.setOuts_cycles (s : State) (os : List Output) : (s.setOuts os).cycles = s.cycles := rfl
@[simp] theorem State.setOuts_irqLinePrev (s : State) (os : List Output) : (s.setOuts os).irqLinePrev = s.irqLinePrev := rfl
@[simp] theorem State.setOuts_cfg (s : State) (os : List Output) : (s.setOuts os).cfg = s.cfg := rfl
@[simp] theorem State.setOuts_call (s : State) (os : List Output) : (s.setOuts os).call = s.call := rfl
@[simp] theorem State.setOuts_calls (s : State) (os : List Output) : (s.setOuts os).calls = s.calls := rfl
@[simp] theorem State.setOuts_chunk (s : State) (os : List Output) : (s.setOuts os).chunk = s.chunk := rfl
@[simp] theorem State.setOuts_outs (s : State) (os : List Output) : (s.setOuts os).outs = os := rfl
@[simp] theorem State.setOuts_reactions (s : State) (os : List Output) : (s.setOuts os).reactions = s.reactions := rfl
@[simp] theorem State.setOuts_free (s : State) (os : List Output) : (s.setOuts os).free = s.free := rfl

@[simp] theorem State.setReactions_a (s : State) (es : List (List Signal)) : (s.setReactions es).a = s.a := rfl
@[simp] theorem State.setReactions_b (s : State) (es : List (List Signal)) : (s.setReactions es).b = s.b := rfl
@[simp] theorem State.setReactions_x (s : State) (es : List (List Signal)) : (s.setReactions es).x = s.x := rfl
@[simp] theorem State.setReactions_sp (s : State) (es : List (List Signal)) : (s.setReactions es).sp = s.sp := rfl
@[simp] theorem State.setReactions_pc (s : State) (es : List (List Signal)) : (s.setReactions es).pc = s.pc := rfl
@[simp] theorem State.setReactions_flags (s : State) (es : List (List Signal)) : (s.setReactions es).flags = s.flags := rfl
@[simp] theorem State.setReactions_resetPending (s : State) (es : List (List Signal)) : (s.setReactions es).resetPending = s.resetPending := rfl
@[simp] theorem State.setReactions_nmiPending (s : State) (es : List (List Signal)) : (s.setReactions es).nmiPending = s.nmiPending := rfl
@[simp] theorem State.setReactions_irqPending (s : State) (es : List (List Signal)) : (s.setReactions es).irqPending = s.irqPending := rfl
@[simp] theorem State.setReactions_halt (s : State) (es : List (List Signal)) : (s.setReactions es).halt = s.halt := rfl
@[simp] theorem State.setReactions_parked (s : State) (es : List (List Signal)) : (s.setReactions es).parked = s.parked := rfl
@[simp] theorem State.setReactions_via (s : State) (es : List (List Signal)) : (s.setReactions es).via = s.via := rfl
@[simp] theorem State.setReactions_mem (s : State) (es : List (List Signal)) : (s.setReactions es).mem = s.mem := rfl
@[simp] theorem State.setReactions_cycles (s : State) (es : List (List Signal)) : (s.setReactions es).cycles = s.cycles := rfl
@[simp] theorem State.setReactions_irqLinePrev (s : State) (es : List (List Signal)) : (s.setReactions es).irqLinePrev = s.irqLinePrev := rfl
@[simp] theorem State.setReactions_cfg (s : State) (es : List (List Signal)) : (s.setReactions es).cfg = s.cfg := rfl
@[simp] theorem State.setReactions_call (s : State) (es : List (List Signal)) : (s.setReactions es).call = s.call := rfl
@[simp] theorem State.setReactions_calls (s : State) (es : List (List Signal)) : (s.setReactions es).calls = s.calls := rfl
@[simp] theorem State.setReactions_chunk (s : State) (es : List (List Signal)) : (s.setReactions es).chunk = s.chunk := rfl
@[simp] theorem State.setReactions_outs (s : State) (es : List (List Signal)) : (s.setReactions es).outs = s.outs := rfl
@[simp] theorem State.setReactions_reactions (s : State) (es : List (List Signal)) : (s.setReactions es).reactions = es := rfl
@[simp] theorem State.setReactions_free (s : State) (es : List (List Signal)) : (s.setReactions es).free = s.free := rfl

@[simp] theorem State.setFree_a (s : State) (n : Nat) : (s.setFree n).a = s.a := rfl
@[simp] theorem State.setFree_b (s : State) (n : Nat) : (s.setFree n).b = s.b := rfl
@[simp] theorem State.setFree_x (s : State) (n : Nat) : (s.setFree n).x = s.x := rfl
@[simp] theorem State.setFree_sp (s : State) (n : Nat) : (s.setFree n).sp = s.sp := rfl
@[simp] theorem State.setFree_pc (s : State) (n : Nat) : (s.setFree n).pc = s.pc := rfl
@[simp] theorem State.setFree_flags (s : State) (n : Nat) : (s.setFree n).flags = s.flags := rfl
@[simp] theorem State.setFree_resetPending (s : State) (n : Nat) : (s.setFree n).resetPending = s.resetPending := rfl
@[simp] theorem State.setFree_nmiPending (s : State) (n : Nat) : (s.setFree n).nmiPending = s.nmiPending := rfl
@[simp] theorem State.setFree_irqPending (s : State) (n : Nat) : (s.setFree n).irqPending = s.irqPending := rfl
@[simp] theorem State.setFree_halt (s : State) (n : Nat) : (s.setFree n).halt = s.halt := rfl
@[simp] theorem State.setFree_parked (s : State) (n : Nat) : (s.setFree n).parked = s.parked := rfl
@[simp] theorem State.setFree_via (s : State) (n : Nat) : (s.setFree n).via = s.via := rfl
@[simp] theorem State.setFree_mem (s : State) (n : Nat) : (s.setFree n).mem = s.mem := rfl
@[simp] theorem State.setFree_cycles (s : State) (n : Nat) : (s.setFree n).cycles = s.cycles := rfl
@[simp] theorem State.setFree_irqLinePrev (s : State) (n : Nat) : (s.setFree n).irqLinePrev = s.irqLinePrev := rfl
@[simp] theorem State.setFree_cfg (s : State) (n : Nat) : (s.setFree n).cfg = s.cfg := rfl
@[simp] theorem State.setFree_call (s : State) (n : Nat) : (s.setFree n).call = s.call := rfl
@[simp] theorem State.setFree_calls (s : State) (n : Nat) : (s.setFree n).calls = s.calls := rfl
@[simp] theorem State.setFree_chunk (s : State) (n : Nat) : (s.setFree n).chunk = s.chunk := rfl
@[simp] theorem State.setFree_outs (s : State) (n : Nat) : (s.setFree n).outs = s.outs := rfl
@[simp] theorem State.setFree_reactions (s : State) (n : Nat) : (s.setFree n).reactions = s.reactions := rfl
@[simp] theorem State.setFree_free (s : State) (n : Nat) : (s.setFree n).free = n := rfl

/-! Of two updates of one field the last stands. -/

@[simp] theorem State.setA_setA (s : State) (v v' : Byte) : (s.setA v).setA v' = s.setA v' := rfl
@[simp] theorem State.setB_setB (s : State) (v v' : Byte) : (s.setB v).setB v' = s.setB v' := rfl
@[simp] theorem State.setX_setX (s : State) (w w' : Word) : (s.setX w).setX w' = s.setX w' := rfl
@[simp] theorem State.setSp_setSp (s : State) (w w' : Word) : (s.setSp w).setSp w' = s.setSp w' := rfl
@[simp] theorem State.setPc_setPc (s : State) (w w' : Word) : (s.setPc w).setPc w' = s.setPc w' := rfl
@[simp] theorem State.setFlags_setFlags (s : State) (f f' : Flags) : (s.setFlags f).setFlags f' = s.setFlags f' := rfl
@[simp] theorem State.setResetPending_setResetPending (s : State) (v v' : Bool) : (s.setResetPending v).setResetPending v' = s.setResetPending v' := rfl
@[simp] theorem State.setNmiPending_setNmiPending (s : State) (v v' : Bool) : (s.setNmiPending v).setNmiPending v' = s.setNmiPending v' := rfl
@[simp] theorem State.setIrqPending_setIrqPending (s : State) (v v' : Bool) : (s.setIrqPending v).setIrqPending v' = s.setIrqPending v' := rfl
@[simp] theorem State.setHalt_setHalt (s : State) (v v' : Bool) : (s.setHalt v).setHalt v' = s.setHalt v' := rfl
@[simp] theorem State.setParked_setParked (s : State) (v v' : Bool) : (s.setParked v).setParked v' = s.setParked v' := rfl
@[simp] theorem State.setVia_setVia (s : State) (v v' : Via) : (s.setVia v).setVia v' = s.setVia v' := rfl
@[simp] theorem State.setMem_setMem (s : State) (m m' : List Host.Cell) : (s.setMem m).setMem m' = s.setMem m' := rfl
@[simp] theorem State.setCycles_setCycles (s : State) (n n' : Nat) : (s.setCycles n).setCycles n' = s.setCycles n' := rfl
@[simp] theorem State.setIrqLinePrev_setIrqLinePrev (s : State) (v v' : Bool) : (s.setIrqLinePrev v).setIrqLinePrev v' = s.setIrqLinePrev v' := rfl
@[simp] theorem State.setCall_setCall (s : State) (c c' : Option Call) : (s.setCall c).setCall c' = s.setCall c' := rfl
@[simp] theorem State.setCalls_setCalls (s : State) (cs cs' : List HostCall) : (s.setCalls cs).setCalls cs' = s.setCalls cs' := rfl
@[simp] theorem State.setChunk_setChunk (s : State) (n n' : Nat) : (s.setChunk n).setChunk n' = s.setChunk n' := rfl
@[simp] theorem State.setOuts_setOuts (s : State) (os os' : List Output) : (s.setOuts os).setOuts os' = s.setOuts os' := rfl
@[simp] theorem State.setReactions_setReactions (s : State) (es es' : List (List Signal)) : (s.setReactions es).setReactions es' = s.setReactions es' := rfl
@[simp] theorem State.setFree_setFree (s : State) (n n' : Nat) : (s.setFree n).setFree n' = s.setFree n' := rfl

end Sys2Proof.Machine
end

