-- ==== Sys2Proof/Laws/Bus.lean ====
section
/-! SUPPORT. What an input event, the ticks of the peripherals and the routing of the line can change, once. -/

namespace Sys2Proof.Machine

/-- An input event changes the chip and the four latches, and no more. -/
theorem applySignal_frame (e : Signal) (s : State) : ∃ v r n q h, applySignal e s =
    { s with via := v, resetPending := r, nmiPending := n, irqPending := q, halt := h } := by
  cases e with
  | halt level => cases level <;> exact ⟨s.via, s.resetPending, s.nmiPending, s.irqPending, _, rfl⟩
  | _ => exact ⟨_, _, _, _, _, rfl⟩

/-- Input events are applied one after the other. -/
theorem applySignals_eq_foldl (es : List Signal) (s : State) :
    applySignals es s = es.foldl (fun t e => applySignal e t) s := by
  induction es generalizing s with
  | nil => rfl
  | cons e es ih => exact ih (applySignal e s)

/-- Input events change the chip and the four latches, and no more. -/
theorem applySignals_frame (es : List Signal) (s : State) : ∃ v r n q h, applySignals es s =
    { s with via := v, resetPending := r, nmiPending := n, irqPending := q, halt := h } := by
  induction es generalizing s with
  | nil => exact ⟨s.via, s.resetPending, s.nmiPending, s.irqPending, s.halt, rfl⟩
  | cons e es ih =>
    obtain ⟨v, r, n, q, h, h1⟩ := applySignal_frame e s
    obtain ⟨v', r', n', q', h', h2⟩ := ih (applySignal e s)
    refine ⟨v', r', n', q', h', ?_⟩
    show applySignals es (applySignal e s) = _
    rw [h2, h1]

/-- Among input events only `signal_halt(true)` sets `halt`, and none clears it (10_state.md R37). -/
theorem applySignals_halt (es : List Signal) (s : State) :
    (applySignals es s).halt = true ↔ s.halt = true ∨ .halt true ∈ es := by
  induction es generalizing s with
  | nil => simp [applySignals]
  | cons e es ih =>
    show (applySignals es (applySignal e s)).halt = true ↔ _
    rw [ih, List.mem_cons]
    have : (applySignal e s).halt = true ↔ s.halt = true ∨ .halt true = e := by
      cases e with
      | halt level => cases level <;> simp [applySignal, signalHalt]
      | _ => simp [applySignal]
    rw [this, or_assoc]

/-- Among input events only `signal_irq()` sets the IRQ latch, and none clears it (R36). -/
theorem applySignals_irqPending (es : List Signal) (s : State) :
    (applySignals es s).irqPending = true ↔ s.irqPending = true ∨ .irq ∈ es := by
  induction es generalizing s with
  | nil => simp [applySignals]
  | cons e es ih =>
    show (applySignals es (applySignal e s)).irqPending = true ↔ _
    rw [ih, List.mem_cons]
    have : (applySignal e s).irqPending = true ↔ s.irqPending = true ∨ .irq = e := by
      cases e with
      | halt level => cases level <;> simp [applySignal, signalHalt]
      | _ => simp [applySignal]
    rw [this, or_assoc]

/-- The tick of one peripheral changes the chip, the four latches, the reports and the reactions to come, and no more. -/
theorem tickPeripheral_frame (k : Nat) (d : Device) (s : State) : ∃ v r n q h os es, tickPeripheral k d s =
    { s with via := v, resetPending := r, nmiPending := n, irqPending := q, halt := h, outs := os, reactions := es } := by
  cases d with
  | chip => exact ⟨_, s.resetPending, s.nmiPending, s.irqPending, s.halt, s.outs, s.reactions, rfl⟩
  | external id =>
    simp only [tickPeripheral, tickExternal]
    split
    · exact ⟨s.via, s.resetPending, s.nmiPending, s.irqPending, s.halt, _, s.reactions, rfl⟩
    · next es rest _ =>
      obtain ⟨v, r, n, q, h, he⟩ := applySignals_frame es ((report s (.externalTick id k)).setReactions rest)
      exact ⟨v, r, n, q, h, _, _, he⟩

/-- The ticks of the peripherals change the chip, the four latches, the reports and the reactions to come, and no more. -/
theorem tickPeripherals_frame (k : Nat) (ds : List Device) (s : State) : ∃ v r n q h os es, tickPeripherals k ds s =
    { s with via := v, resetPending := r, nmiPending := n, irqPending := q, halt := h, outs := os, reactions := es } := by
  induction ds generalizing s with
  | nil => exact ⟨s.via, s.resetPending, s.nmiPending, s.irqPending, s.halt, s.outs, s.reactions, rfl⟩
  | cons d ds ih =>
    obtain ⟨v, r, n, q, h, os, es, h1⟩ := tickPeripheral_frame k d s
    obtain ⟨v', r', n', q', h', os', es', h2⟩ := ih (tickPeripheral k d s)
    refine ⟨v', r', n', q', h', os', es', ?_⟩
    show tickPeripherals k ds (tickPeripheral k d s) = _
    rw [h2, h1]

/-- Whether a latch of the events is set, when `get` reads it and `e` alone sets it: at the tick of a peripheral, only if it was,
or if `e` stands in a reaction still to come. -/
theorem tickPeripheral_latch (get : State → Bool) (e : Signal)
    (events : ∀ es u, get (applySignals es u) = true ↔ get u = true ∨ e ∈ es)
    (other : ∀ (u : State) v os rs, get { u with via := v, outs := os, reactions := rs } = get u)
    (k : Nat) (d : Device) (s : State) :
    (get s = true → get (tickPeripheral k d s) = true) ∧
    (get (tickPeripheral k d s) = true → get s = true ∨ ∃ es ∈ s.reactions, e ∈ es) ∧
    ∀ es ∈ (tickPeripheral k d s).reactions, es ∈ s.reactions := by
  cases d with
  | chip =>
    have h : get (tickPeripheral k .chip s) = get s := other s _ s.outs s.reactions
    exact ⟨fun hs => h.trans hs, fun ht => .inl (h.symm.trans ht), fun _ hm => hm⟩
  | external id =>
    simp only [tickPeripheral, tickExternal]
    split
    · have h : get (report s (.externalTick id k)) = get s := other s s.via _ s.reactions
      exact ⟨fun hs => h.trans hs, fun ht => .inl (h.symm.trans ht), fun _ hm => hm⟩
    · next es rest hr =>
      have hr' : s.reactions = es :: rest := hr
      have h : get ((report s (.externalTick id k)).setReactions rest) = get s := other s s.via _ rest
      obtain ⟨v, r, n, q, b, he⟩ := applySignals_frame es ((report s (.externalTick id k)).setReactions rest)
      refine ⟨fun hs => (events es _).mpr (.inl (h.trans hs)), fun ht => ?_, fun es' hm => ?_⟩
      · rcases (events es _).mp ht with h' | h'
        · exact .inl (h.symm.trans h')
        · exact .inr ⟨es, by rw [hr']; exact List.mem_cons_self, h'⟩
      · rw [he] at hm
        rw [hr']
        exact List.mem_cons_of_mem _ hm

/-- The same for the ticks of a list of peripherals. -/
theorem tickPeripherals_latch (get : State → Bool) (e : Signal)
    (events : ∀ es u, get (applySignals es u) = true ↔ get u = true ∨ e ∈ es)
    (other : ∀ (u : State) v os rs, get { u with via := v, outs := os, reactions := rs } = get u)
    (k : Nat) (ds : List Device) (s : State) :
    (get s = true → get (tickPeripherals k ds s) = true) ∧
    (get (tickPeripherals k ds s) = true → get s = true ∨ ∃ es ∈ s.reactions, e ∈ es) := by
  induction ds generalizing s with
  | nil => exact ⟨id, .inl⟩
  | cons d ds ih =>
    obtain ⟨up, down, sub⟩ := tickPeripheral_latch get e events other k d s
    obtain ⟨up', down'⟩ := ih (tickPeripheral k d s)
    refine ⟨fun h => up' (up h), fun h => ?_⟩
    rcases down' h with h' | ⟨es, hm, he⟩
    · exact down h'
    · exact .inr ⟨es, sub es hm, he⟩

/-- In the ticks of the peripherals `halt` is set only by `signal_halt(true)` in a reaction (10_state.md R37), never cleared. -/
theorem tickPeripherals_halt (k : Nat) (ds : List Device) (s : State) :
    (s.halt = true → (tickPeripherals k ds s).halt = true) ∧
    ((tickPeripherals k ds s).halt = true → s.halt = true ∨ ∃ es ∈ s.reactions, .halt true ∈ es) :=
  tickPeripherals_latch State.halt (.halt true) applySignals_halt (fun _ _ _ _ => rfl) k ds s

/-- In the ticks of the peripherals the IRQ latch is set only by `signal_irq()` in a reaction (R36, R325), never cleared. -/
theorem tickPeripherals_irqPending (k : Nat) (ds : List Device) (s : State) :
    (s.irqPending = true → (tickPeripherals k ds s).irqPending = true) ∧
    ((tickPeripherals k ds s).irqPending = true → s.irqPending = true ∨ ∃ es ∈ s.reactions, .irq ∈ es) :=
  tickPeripherals_latch State.irqPending .irq applySignals_irqPending (fun _ _ _ _ => rfl) k ds s

/-- Routing changes the IRQ latch and the level remembered (60_exceptions.md R345). -/
theorem routeIrq_frame (s : State) : ∃ q, routeIrq s = { s with irqPending := q, irqLinePrev := s.via.irqLine } :=
  ⟨_, rfl⟩

end Sys2Proof.Machine
end

