-- ==== Sys2Proof/Laws/Ops.lean ====
section
/-! SUPPORT. What each shared operation can change, once: its frame, and one lemma per field it leaves alone. -/

namespace Sys2Proof.Machine

/-- A read changes nothing but the chip (a register's read side effect), or, at a device outside the core, the count of free
values and the record of calls of such devices (20_memory.md R66, R64). -/
theorem read8_frame (s : State) (a : Word) :
    (read8 s a).2 = ((s.setVia (read8 s a).2.via).setFree (read8 s a).2.free).setOuts (read8 s a).2.outs := by
  unfold read8
  split
  · rfl
  · split <;> rfl

/-- A write changes nothing but memory, the chip and the record of calls of outside devices (R67). -/
theorem write8_frame (s : State) (a : Word) (v : Byte) :
    write8 s a v = ((s.setMem (write8 s a v).mem).setVia (write8 s a v).via).setOuts (write8 s a v).outs := by
  unfold write8
  split
  · rfl
  · split <;> rfl

@[simp] theorem read8_a (s : State) (a : Word) : ((read8 s a).2).a = s.a := by rw [read8_frame]; rfl
@[simp] theorem read8_b (s : State) (a : Word) : ((read8 s a).2).b = s.b := by rw [read8_frame]; rfl
@[simp] theorem read8_x (s : State) (a : Word) : ((read8 s a).2).x = s.x := by rw [read8_frame]; rfl
@[simp] theorem read8_sp (s : State) (a : Word) : ((read8 s a).2).sp = s.sp := by rw [read8_frame]; rfl
@[simp] theorem read8_pc (s : State) (a : Word) : ((read8 s a).2).pc = s.pc := by rw [read8_frame]; rfl
@[simp] theorem read8_flags (s : State) (a : Word) : ((read8 s a).2).flags = s.flags := by rw [read8_frame]; rfl
@[simp] theorem read8_resetPending (s : State) (a : Word) : ((read8 s a).2).resetPending = s.resetPending := by rw [read8_frame]; rfl
@[simp] theorem read8_nmiPending (s : State) (a : Word) : ((read8 s a).2).nmiPending = s.nmiPending := by rw [read8_frame]; rfl
@[simp] theorem read8_irqPending (s : State) (a : Word) : ((read8 s a).2).irqPending = s.irqPending := by rw [read8_frame]; rfl
@[simp] theorem read8_halt (s : State) (a : Word) : ((read8 s a).2).halt = s.halt := by rw [read8_frame]; rfl
@[simp] theorem read8_parked (s : State) (a : Word) : ((read8 s a).2).parked = s.parked := by rw [read8_frame]; rfl
@[simp] theorem read8_mem (s : State) (a : Word) : ((read8 s a).2).mem = s.mem := by rw [read8_frame]; rfl
@[simp] theorem read8_cycles (s : State) (a : Word) : ((read8 s a).2).cycles = s.cycles := by rw [read8_frame]; rfl
@[simp] theorem read8_irqLinePrev (s : State) (a : Word) : ((read8 s a).2).irqLinePrev = s.irqLinePrev := by rw [read8_frame]; rfl
@[simp] theorem read8_cfg (s : State) (a : Word) : ((read8 s a).2).cfg = s.cfg := by rw [read8_frame]; rfl
@[simp] theorem read8_call (s : State) (a : Word) : ((read8 s a).2).call = s.call := by rw [read8_frame]; rfl
@[simp] theorem read8_calls (s : State) (a : Word) : ((read8 s a).2).calls = s.calls := by rw [read8_frame]; rfl
@[simp] theorem read8_chunk (s : State) (a : Word) : ((read8 s a).2).chunk = s.chunk := by rw [read8_frame]; rfl
@[simp] theorem read8_reactions (s : State) (a : Word) : ((read8 s a).2).reactions = s.reactions := by rw [read8_frame]; rfl

@[simp] theorem write8_a (s : State) (a : Word) (v : Byte) : (write8 s a v).a = s.a := by rw [write8_frame]; rfl
@[simp] theorem write8_b (s : State) (a : Word) (v : Byte) : (write8 s a v).b = s.b := by rw [write8_frame]; rfl
@[simp] theorem write8_x (s : State) (a : Word) (v : Byte) : (write8 s a v).x = s.x := by rw [write8_frame]; rfl
@[simp] theorem write8_sp (s : State) (a : Word) (v : Byte) : (write8 s a v).sp = s.sp := by rw [write8_frame]; rfl
@[simp] theorem write8_pc (s : State) (a : Word) (v : Byte) : (write8 s a v).pc = s.pc := by rw [write8_frame]; rfl
@[simp] theorem write8_flags (s : State) (a : Word) (v : Byte) : (write8 s a v).flags = s.flags := by rw [write8_frame]; rfl
@[simp] theorem write8_resetPending (s : State) (a : Word) (v : Byte) : (write8 s a v).resetPending = s.resetPending := by rw [write8_frame]; rfl
@[simp] theorem write8_nmiPending (s : State) (a : Word) (v : Byte) : (write8 s a v).nmiPending = s.nmiPending := by rw [write8_frame]; rfl
@[simp] theorem write8_irqPending (s : State) (a : Word) (v : Byte) : (write8 s a v).irqPending = s.irqPending := by rw [write8_frame]; rfl
@[simp] theorem write8_halt (s : State) (a : Word) (v : Byte) : (write8 s a v).halt = s.halt := by rw [write8_frame]; rfl
@[simp] theorem write8_parked (s : State) (a : Word) (v : Byte) : (write8 s a v).parked = s.parked := by rw [write8_frame]; rfl
@[simp] theorem write8_cycles (s : State) (a : Word) (v : Byte) : (write8 s a v).cycles = s.cycles := by rw [write8_frame]; rfl
@[simp] theorem write8_irqLinePrev (s : State) (a : Word) (v : Byte) : (write8 s a v).irqLinePrev = s.irqLinePrev := by rw [write8_frame]; rfl
@[simp] theorem write8_cfg (s : State) (a : Word) (v : Byte) : (write8 s a v).cfg = s.cfg := by rw [write8_frame]; rfl
@[simp] theorem write8_call (s : State) (a : Word) (v : Byte) : (write8 s a v).call = s.call := by rw [write8_frame]; rfl
@[simp] theorem write8_calls (s : State) (a : Word) (v : Byte) : (write8 s a v).calls = s.calls := by rw [write8_frame]; rfl
@[simp] theorem write8_chunk (s : State) (a : Word) (v : Byte) : (write8 s a v).chunk = s.chunk := by rw [write8_frame]; rfl
@[simp] theorem write8_reactions (s : State) (a : Word) (v : Byte) : (write8 s a v).reactions = s.reactions := by rw [write8_frame]; rfl
@[simp] theorem write8_free (s : State) (a : Word) (v : Byte) : (write8 s a v).free = s.free := by rw [write8_frame]; rfl

@[simp] theorem read16_a (s : State) (a : Word) : ((read16 s a).2).a = s.a := by simp [read16]
@[simp] theorem read16_b (s : State) (a : Word) : ((read16 s a).2).b = s.b := by simp [read16]
@[simp] theorem read16_x (s : State) (a : Word) : ((read16 s a).2).x = s.x := by simp [read16]
@[simp] theorem read16_sp (s : State) (a : Word) : ((read16 s a).2).sp = s.sp := by simp [read16]
@[simp] theorem read16_pc (s : State) (a : Word) : ((read16 s a).2).pc = s.pc := by simp [read16]
@[simp] theorem read16_flags (s : State) (a : Word) : ((read16 s a).2).flags = s.flags := by simp [read16]
@[simp] theorem read16_resetPending (s : State) (a : Word) : ((read16 s a).2).resetPending = s.resetPending := by simp [read16]
@[simp] theorem read16_nmiPending (s : State) (a : Word) : ((read16 s a).2).nmiPending = s.nmiPending := by simp [read16]
@[simp] theorem read16_irqPending (s : State) (a : Word) : ((read16 s a).2).irqPending = s.irqPending := by simp [read16]
@[simp] theorem read16_halt (s : State) (a : Word) : ((read16 s a).2).halt = s.halt := by simp [read16]
@[simp] theorem read16_parked (s : State) (a : Word) : ((read16 s a).2).parked = s.parked := by simp [read16]
@[simp] theorem read16_mem (s : State) (a : Word) : ((read16 s a).2).mem = s.mem := by simp [read16]
@[simp] theorem read16_cycles (s : State) (a : Word) : ((read16 s a).2).cycles = s.cycles := by simp [read16]
@[simp] theorem read16_irqLinePrev (s : State) (a : Word) : ((read16 s a).2).irqLinePrev = s.irqLinePrev := by simp [read16]
@[simp] theorem read16_cfg (s : State) (a : Word) : ((read16 s a).2).cfg = s.cfg := by simp [read16]
@[simp] theorem read16_call (s : State) (a : Word) : ((read16 s a).2).call = s.call := by simp [read16]
@[simp] theorem read16_calls (s : State) (a : Word) : ((read16 s a).2).calls = s.calls := by simp [read16]
@[simp] theorem read16_chunk (s : State) (a : Word) : ((read16 s a).2).chunk = s.chunk := by simp [read16]
@[simp] theorem read16_reactions (s : State) (a : Word) : ((read16 s a).2).reactions = s.reactions := by simp [read16]

@[simp] theorem write16_a (s : State) (a w : Word) : (write16 s a w).a = s.a := by simp [write16]
@[simp] theorem write16_b (s : State) (a w : Word) : (write16 s a w).b = s.b := by simp [write16]
@[simp] theorem write16_x (s : State) (a w : Word) : (write16 s a w).x = s.x := by simp [write16]
@[simp] theorem write16_sp (s : State) (a w : Word) : (write16 s a w).sp = s.sp := by simp [write16]
@[simp] theorem write16_pc (s : State) (a w : Word) : (write16 s a w).pc = s.pc := by simp [write16]
@[simp] theorem write16_flags (s : State) (a w : Word) : (write16 s a w).flags = s.flags := by simp [write16]
@[simp] theorem write16_resetPending (s : State) (a w : Word) : (write16 s a w).resetPending = s.resetPending := by simp [write16]
@[simp] theorem write16_nmiPending (s : State) (a w : Word) : (write16 s a w).nmiPending = s.nmiPending := by simp [write16]
@[simp] theorem write16_irqPending (s : State) (a w : Word) : (write16 s a w).irqPending = s.irqPending := by simp [write16]
@[simp] theorem write16_halt (s : State) (a w : Word) : (write16 s a w).halt = s.halt := by simp [write16]
@[simp] theorem write16_parked (s : State) (a w : Word) : (write16 s a w).parked = s.parked := by simp [write16]
@[simp] theorem write16_cycles (s : State) (a w : Word) : (write16 s a w).cycles = s.cycles := by simp [write16]
@[simp] theorem write16_irqLinePrev (s : State) (a w : Word) : (write16 s a w).irqLinePrev = s.irqLinePrev := by simp [write16]
@[simp] theorem write16_cfg (s : State) (a w : Word) : (write16 s a w).cfg = s.cfg := by simp [write16]
@[simp] theorem write16_call (s : State) (a w : Word) : (write16 s a w).call = s.call := by simp [write16]
@[simp] theorem write16_calls (s : State) (a w : Word) : (write16 s a w).calls = s.calls := by simp [write16]
@[simp] theorem write16_chunk (s : State) (a w : Word) : (write16 s a w).chunk = s.chunk := by simp [write16]
@[simp] theorem write16_reactions (s : State) (a w : Word) : (write16 s a w).reactions = s.reactions := by simp [write16]
@[simp] theorem write16_free (s : State) (a w : Word) : (write16 s a w).free = s.free := by simp [write16]

@[simp] theorem push8_a (s : State) (v : Byte) : (push8 s v).a = s.a := by simp [push8]
@[simp] theorem push8_b (s : State) (v : Byte) : (push8 s v).b = s.b := by simp [push8]
@[simp] theorem push8_x (s : State) (v : Byte) : (push8 s v).x = s.x := by simp [push8]
@[simp] theorem push8_pc (s : State) (v : Byte) : (push8 s v).pc = s.pc := by simp [push8]
@[simp] theorem push8_flags (s : State) (v : Byte) : (push8 s v).flags = s.flags := by simp [push8]
@[simp] theorem push8_resetPending (s : State) (v : Byte) : (push8 s v).resetPending = s.resetPending := by simp [push8]
@[simp] theorem push8_nmiPending (s : State) (v : Byte) : (push8 s v).nmiPending = s.nmiPending := by simp [push8]
@[simp] theorem push8_irqPending (s : State) (v : Byte) : (push8 s v).irqPending = s.irqPending := by simp [push8]
@[simp] theorem push8_halt (s : State) (v : Byte) : (push8 s v).halt = s.halt := by simp [push8]
@[simp] theorem push8_parked (s : State) (v : Byte) : (push8 s v).parked = s.parked := by simp [push8]
@[simp] theorem push8_cycles (s : State) (v : Byte) : (push8 s v).cycles = s.cycles := by simp [push8]
@[simp] theorem push8_irqLinePrev (s : State) (v : Byte) : (push8 s v).irqLinePrev = s.irqLinePrev := by simp [push8]
@[simp] theorem push8_cfg (s : State) (v : Byte) : (push8 s v).cfg = s.cfg := by simp [push8]
@[simp] theorem push8_call (s : State) (v : Byte) : (push8 s v).call = s.call := by simp [push8]
@[simp] theorem push8_calls (s : State) (v : Byte) : (push8 s v).calls = s.calls := by simp [push8]
@[simp] theorem push8_chunk (s : State) (v : Byte) : (push8 s v).chunk = s.chunk := by simp [push8]
@[simp] theorem push8_reactions (s : State) (v : Byte) : (push8 s v).reactions = s.reactions := by simp [push8]
@[simp] theorem push8_free (s : State) (v : Byte) : (push8 s v).free = s.free := by simp [push8]

@[simp] theorem pull8_a (s : State) : ((pull8 s).2).a = s.a := by simp [pull8]
@[simp] theorem pull8_b (s : State) : ((pull8 s).2).b = s.b := by simp [pull8]
@[simp] theorem pull8_x (s : State) : ((pull8 s).2).x = s.x := by simp [pull8]
@[simp] theorem pull8_pc (s : State) : ((pull8 s).2).pc = s.pc := by simp [pull8]
@[simp] theorem pull8_flags (s : State) : ((pull8 s).2).flags = s.flags := by simp [pull8]
@[simp] theorem pull8_resetPending (s : State) : ((pull8 s).2).resetPending = s.resetPending := by simp [pull8]
@[simp] theorem pull8_nmiPending (s : State) : ((pull8 s).2).nmiPending = s.nmiPending := by simp [pull8]
@[simp] theorem pull8_irqPending (s : State) : ((pull8 s).2).irqPending = s.irqPending := by simp [pull8]
@[simp] theorem pull8_halt (s : State) : ((pull8 s).2).halt = s.halt := by simp [pull8]
@[simp] theorem pull8_parked (s : State) : ((pull8 s).2).parked = s.parked := by simp [pull8]
@[simp] theorem pull8_mem (s : State) : ((pull8 s).2).mem = s.mem := by simp [pull8]
@[simp] theorem pull8_cycles (s : State) : ((pull8 s).2).cycles = s.cycles := by simp [pull8]
@[simp] theorem pull8_irqLinePrev (s : State) : ((pull8 s).2).irqLinePrev = s.irqLinePrev := by simp [pull8]
@[simp] theorem pull8_cfg (s : State) : ((pull8 s).2).cfg = s.cfg := by simp [pull8]
@[simp] theorem pull8_call (s : State) : ((pull8 s).2).call = s.call := by simp [pull8]
@[simp] theorem pull8_calls (s : State) : ((pull8 s).2).calls = s.calls := by simp [pull8]
@[simp] theorem pull8_chunk (s : State) : ((pull8 s).2).chunk = s.chunk := by simp [pull8]
@[simp] theorem pull8_reactions (s : State) : ((pull8 s).2).reactions = s.reactions := by simp [pull8]

@[simp] theorem push16_a (s : State) (w : Word) : (push16 s w).a = s.a := by simp [push16]
@[simp] theorem push16_b (s : State) (w : Word) : (push16 s w).b = s.b := by simp [push16]
@[simp] theorem push16_x (s : State) (w : Word) : (push16 s w).x = s.x := by simp [push16]
@[simp] theorem push16_pc (s : State) (w : Word) : (push16 s w).pc = s.pc := by simp [push16]
@[simp] theorem push16_flags (s : State) (w : Word) : (push16 s w).flags = s.flags := by simp [push16]
@[simp] theorem push16_resetPending (s : State) (w : Word) : (push16 s w).resetPending = s.resetPending := by simp [push16]
@[simp] theorem push16_nmiPending (s : State) (w : Word) : (push16 s w).nmiPending = s.nmiPending := by simp [push16]
@[simp] theorem push16_irqPending (s : State) (w : Word) : (push16 s w).irqPending = s.irqPending := by simp [push16]
@[simp] theorem push16_halt (s : State) (w : Word) : (push16 s w).halt = s.halt := by simp [push16]
@[simp] theorem push16_parked (s : State) (w : Word) : (push16 s w).parked = s.parked := by simp [push16]
@[simp] theorem push16_cycles (s : State) (w : Word) : (push16 s w).cycles = s.cycles := by simp [push16]
@[simp] theorem push16_irqLinePrev (s : State) (w : Word) : (push16 s w).irqLinePrev = s.irqLinePrev := by simp [push16]
@[simp] theorem push16_cfg (s : State) (w : Word) : (push16 s w).cfg = s.cfg := by simp [push16]
@[simp] theorem push16_call (s : State) (w : Word) : (push16 s w).call = s.call := by simp [push16]
@[simp] theorem push16_calls (s : State) (w : Word) : (push16 s w).calls = s.calls := by simp [push16]
@[simp] theorem push16_chunk (s : State) (w : Word) : (push16 s w).chunk = s.chunk := by simp [push16]
@[simp] theorem push16_reactions (s : State) (w : Word) : (push16 s w).reactions = s.reactions := by simp [push16]
@[simp] theorem push16_free (s : State) (w : Word) : (push16 s w).free = s.free := by simp [push16]

@[simp] theorem pull16_a (s : State) : ((pull16 s).2).a = s.a := by simp [pull16]
@[simp] theorem pull16_b (s : State) : ((pull16 s).2).b = s.b := by simp [pull16]
@[simp] theorem pull16_x (s : State) : ((pull16 s).2).x = s.x := by simp [pull16]
@[simp] theorem pull16_pc (s : State) : ((pull16 s).2).pc = s.pc := by simp [pull16]
@[simp] theorem pull16_flags (s : State) : ((pull16 s).2).flags = s.flags := by simp [pull16]
@[simp] theorem pull16_resetPending (s : State) : ((pull16 s).2).resetPending = s.resetPending := by simp [pull16]
@[simp] theorem pull16_nmiPending (s : State) : ((pull16 s).2).nmiPending = s.nmiPending := by simp [pull16]
@[simp] theorem pull16_irqPending (s : State) : ((pull16 s).2).irqPending = s.irqPending := by simp [pull16]
@[simp] theorem pull16_halt (s : State) : ((pull16 s).2).halt = s.halt := by simp [pull16]
@[simp] theorem pull16_parked (s : State) : ((pull16 s).2).parked = s.parked := by simp [pull16]
@[simp] theorem pull16_mem (s : State) : ((pull16 s).2).mem = s.mem := by simp [pull16]
@[simp] theorem pull16_cycles (s : State) : ((pull16 s).2).cycles = s.cycles := by simp [pull16]
@[simp] theorem pull16_irqLinePrev (s : State) : ((pull16 s).2).irqLinePrev = s.irqLinePrev := by simp [pull16]
@[simp] theorem pull16_cfg (s : State) : ((pull16 s).2).cfg = s.cfg := by simp [pull16]
@[simp] theorem pull16_call (s : State) : ((pull16 s).2).call = s.call := by simp [pull16]
@[simp] theorem pull16_calls (s : State) : ((pull16 s).2).calls = s.calls := by simp [pull16]
@[simp] theorem pull16_chunk (s : State) : ((pull16 s).2).chunk = s.chunk := by simp [pull16]
@[simp] theorem pull16_reactions (s : State) : ((pull16 s).2).reactions = s.reactions := by simp [pull16]

@[simp] theorem pushAll_a (s : State) : (pushAll s).a = s.a := by simp [pushAll]
@[simp] theorem pushAll_b (s : State) : (pushAll s).b = s.b := by simp [pushAll]
@[simp] theorem pushAll_x (s : State) : (pushAll s).x = s.x := by simp [pushAll]
@[simp] theorem pushAll_pc (s : State) : (pushAll s).pc = s.pc := by simp [pushAll]
@[simp] theorem pushAll_flags (s : State) : (pushAll s).flags = s.flags := by simp [pushAll]
@[simp] theorem pushAll_resetPending (s : State) : (pushAll s).resetPending = s.resetPending := by simp [pushAll]
@[simp] theorem pushAll_nmiPending (s : State) : (pushAll s).nmiPending = s.nmiPending := by simp [pushAll]
@[simp] theorem pushAll_irqPending (s : State) : (pushAll s).irqPending = s.irqPending := by simp [pushAll]
@[simp] theorem pushAll_halt (s : State) : (pushAll s).halt = s.halt := by simp [pushAll]
@[simp] theorem pushAll_parked (s : State) : (pushAll s).parked = s.parked := by simp [pushAll]
@[simp] theorem pushAll_cycles (s : State) : (pushAll s).cycles = s.cycles := by simp [pushAll]
@[simp] theorem pushAll_irqLinePrev (s : State) : (pushAll s).irqLinePrev = s.irqLinePrev := by simp [pushAll]
@[simp] theorem pushAll_cfg (s : State) : (pushAll s).cfg = s.cfg := by simp [pushAll]
@[simp] theorem pushAll_call (s : State) : (pushAll s).call = s.call := by simp [pushAll]
@[simp] theorem pushAll_calls (s : State) : (pushAll s).calls = s.calls := by simp [pushAll]
@[simp] theorem pushAll_chunk (s : State) : (pushAll s).chunk = s.chunk := by simp [pushAll]
@[simp] theorem pushAll_reactions (s : State) : (pushAll s).reactions = s.reactions := by simp [pushAll]
@[simp] theorem pushAll_free (s : State) : (pushAll s).free = s.free := by simp [pushAll]

@[simp] theorem fetch8_a (s : State) : ((fetch8 s).2).a = s.a := by simp [fetch8]
@[simp] theorem fetch8_b (s : State) : ((fetch8 s).2).b = s.b := by simp [fetch8]
@[simp] theorem fetch8_x (s : State) : ((fetch8 s).2).x = s.x := by simp [fetch8]
@[simp] theorem fetch8_sp (s : State) : ((fetch8 s).2).sp = s.sp := by simp [fetch8]
@[simp] theorem fetch8_flags (s : State) : ((fetch8 s).2).flags = s.flags := by simp [fetch8]
@[simp] theorem fetch8_resetPending (s : State) : ((fetch8 s).2).resetPending = s.resetPending := by simp [fetch8]
@[simp] theorem fetch8_nmiPending (s : State) : ((fetch8 s).2).nmiPending = s.nmiPending := by simp [fetch8]
@[simp] theorem fetch8_irqPending (s : State) : ((fetch8 s).2).irqPending = s.irqPending := by simp [fetch8]
@[simp] theorem fetch8_halt (s : State) : ((fetch8 s).2).halt = s.halt := by simp [fetch8]
@[simp] theorem fetch8_parked (s : State) : ((fetch8 s).2).parked = s.parked := by simp [fetch8]
@[simp] theorem fetch8_mem (s : State) : ((fetch8 s).2).mem = s.mem := by simp [fetch8]
@[simp] theorem fetch8_cycles (s : State) : ((fetch8 s).2).cycles = s.cycles := by simp [fetch8]
@[simp] theorem fetch8_irqLinePrev (s : State) : ((fetch8 s).2).irqLinePrev = s.irqLinePrev := by simp [fetch8]
@[simp] theorem fetch8_cfg (s : State) : ((fetch8 s).2).cfg = s.cfg := by simp [fetch8]
@[simp] theorem fetch8_call (s : State) : ((fetch8 s).2).call = s.call := by simp [fetch8]
@[simp] theorem fetch8_calls (s : State) : ((fetch8 s).2).calls = s.calls := by simp [fetch8]
@[simp] theorem fetch8_chunk (s : State) : ((fetch8 s).2).chunk = s.chunk := by simp [fetch8]
@[simp] theorem fetch8_reactions (s : State) : ((fetch8 s).2).reactions = s.reactions := by simp [fetch8]

@[simp] theorem operand8_a (s : State) (o : Src8) : ((operand8 s o).2).a = s.a := by cases o <;> simp [operand8]
@[simp] theorem operand8_b (s : State) (o : Src8) : ((operand8 s o).2).b = s.b := by cases o <;> simp [operand8]
@[simp] theorem operand8_x (s : State) (o : Src8) : ((operand8 s o).2).x = s.x := by cases o <;> simp [operand8]
@[simp] theorem operand8_sp (s : State) (o : Src8) : ((operand8 s o).2).sp = s.sp := by cases o <;> simp [operand8]
@[simp] theorem operand8_pc (s : State) (o : Src8) : ((operand8 s o).2).pc = s.pc := by cases o <;> simp [operand8]
@[simp] theorem operand8_flags (s : State) (o : Src8) : ((operand8 s o).2).flags = s.flags := by cases o <;> simp [operand8]
@[simp] theorem operand8_resetPending (s : State) (o : Src8) : ((operand8 s o).2).resetPending = s.resetPending := by cases o <;> simp [operand8]
@[simp] theorem operand8_nmiPending (s : State) (o : Src8) : ((operand8 s o).2).nmiPending = s.nmiPending := by cases o <;> simp [operand8]
@[simp] theorem operand8_irqPending (s : State) (o : Src8) : ((operand8 s o).2).irqPending = s.irqPending := by cases o <;> simp [operand8]
@[simp] theorem operand8_halt (s : State) (o : Src8) : ((operand8 s o).2).halt = s.halt := by cases o <;> simp [operand8]
@[simp] theorem operand8_parked (s : State) (o : Src8) : ((operand8 s o).2).parked = s.parked := by cases o <;> simp [operand8]
@[simp] theorem operand8_mem (s : State) (o : Src8) : ((operand8 s o).2).mem = s.mem := by cases o <;> simp [operand8]
@[simp] theorem operand8_cycles (s : State) (o : Src8) : ((operand8 s o).2).cycles = s.cycles := by cases o <;> simp [operand8]
@[simp] theorem operand8_irqLinePrev (s : State) (o : Src8) : ((operand8 s o).2).irqLinePrev = s.irqLinePrev := by cases o <;> simp [operand8]
@[simp] theorem operand8_cfg (s : State) (o : Src8) : ((operand8 s o).2).cfg = s.cfg := by cases o <;> simp [operand8]
@[simp] theorem operand8_call (s : State) (o : Src8) : ((operand8 s o).2).call = s.call := by cases o <;> simp [operand8]
@[simp] theorem operand8_calls (s : State) (o : Src8) : ((operand8 s o).2).calls = s.calls := by cases o <;> simp [operand8]
@[simp] theorem operand8_chunk (s : State) (o : Src8) : ((operand8 s o).2).chunk = s.chunk := by cases o <;> simp [operand8]
@[simp] theorem operand8_reactions (s : State) (o : Src8) : ((operand8 s o).2).reactions = s.reactions := by cases o <;> simp [operand8]

@[simp] theorem operand16_a (s : State) (o : Src16) : ((operand16 s o).2).a = s.a := by cases o <;> simp [operand16]
@[simp] theorem operand16_b (s : State) (o : Src16) : ((operand16 s o).2).b = s.b := by cases o <;> simp [operand16]
@[simp] theorem operand16_x (s : State) (o : Src16) : ((operand16 s o).2).x = s.x := by cases o <;> simp [operand16]
@[simp] theorem operand16_sp (s : State) (o : Src16) : ((operand16 s o).2).sp = s.sp := by cases o <;> simp [operand16]
@[simp] theorem operand16_pc (s : State) (o : Src16) : ((operand16 s o).2).pc = s.pc := by cases o <;> simp [operand16]
@[simp] theorem operand16_flags (s : State) (o : Src16) : ((operand16 s o).2).flags = s.flags := by cases o <;> simp [operand16]
@[simp] theorem operand16_resetPending (s : State) (o : Src16) : ((operand16 s o).2).resetPending = s.resetPending := by cases o <;> simp [operand16]
@[simp] theorem operand16_nmiPending (s : State) (o : Src16) : ((operand16 s o).2).nmiPending = s.nmiPending := by cases o <;> simp [operand16]
@[simp] theorem operand16_irqPending (s : State) (o : Src16) : ((operand16 s o).2).irqPending = s.irqPending := by cases o <;> simp [operand16]
@[simp] theorem operand16_halt (s : State) (o : Src16) : ((operand16 s o).2).halt = s.halt := by cases o <;> simp [operand16]
@[simp] theorem operand16_parked (s : State) (o : Src16) : ((operand16 s o).2).parked = s.parked := by cases o <;> simp [operand16]
@[simp] theorem operand16_mem (s : State) (o : Src16) : ((operand16 s o).2).mem = s.mem := by cases o <;> simp [operand16]
@[simp] theorem operand16_cycles (s : State) (o : Src16) : ((operand16 s o).2).cycles = s.cycles := by cases o <;> simp [operand16]
@[simp] theorem operand16_irqLinePrev (s : State) (o : Src16) : ((operand16 s o).2).irqLinePrev = s.irqLinePrev := by cases o <;> simp [operand16]
@[simp] theorem operand16_cfg (s : State) (o : Src16) : ((operand16 s o).2).cfg = s.cfg := by cases o <;> simp [operand16]
@[simp] theorem operand16_call (s : State) (o : Src16) : ((operand16 s o).2).call = s.call := by cases o <;> simp [operand16]
@[simp] theorem operand16_calls (s : State) (o : Src16) : ((operand16 s o).2).calls = s.calls := by cases o <;> simp [operand16]
@[simp] theorem operand16_chunk (s : State) (o : Src16) : ((operand16 s o).2).chunk = s.chunk := by cases o <;> simp [operand16]
@[simp] theorem operand16_reactions (s : State) (o : Src16) : ((operand16 s o).2).reactions = s.reactions := by cases o <;> simp [operand16]

@[simp] theorem operandAdx_a (s : State) (o : AdxSrc) : ((operandAdx s o).2).a = s.a := by cases o <;> simp [operandAdx]
@[simp] theorem operandAdx_b (s : State) (o : AdxSrc) : ((operandAdx s o).2).b = s.b := by cases o <;> simp [operandAdx]
@[simp] theorem operandAdx_x (s : State) (o : AdxSrc) : ((operandAdx s o).2).x = s.x := by cases o <;> simp [operandAdx]
@[simp] theorem operandAdx_sp (s : State) (o : AdxSrc) : ((operandAdx s o).2).sp = s.sp := by cases o <;> simp [operandAdx]
@[simp] theorem operandAdx_pc (s : State) (o : AdxSrc) : ((operandAdx s o).2).pc = s.pc := by cases o <;> simp [operandAdx]
@[simp] theorem operandAdx_flags (s : State) (o : AdxSrc) : ((operandAdx s o).2).flags = s.flags := by cases o <;> simp [operandAdx]
@[simp] theorem operandAdx_resetPending (s : State) (o : AdxSrc) : ((operandAdx s o).2).resetPending = s.resetPending := by cases o <;> simp [operandAdx]
@[simp] theorem operandAdx_nmiPending (s : State) (o : AdxSrc) : ((operandAdx s o).2).nmiPending = s.nmiPending := by cases o <;> simp [operandAdx]
@[simp] theorem operandAdx_irqPending (s : State) (o : AdxSrc) : ((operandAdx s o).2).irqPending = s.irqPending := by cases o <;> simp [operandAdx]
@[simp] theorem operandAdx_halt (s : State) (o : AdxSrc) : ((operandAdx s o).2).halt = s.halt := by cases o <;> simp [operandAdx]
@[simp] theorem operandAdx_parked (s : State) (o : AdxSrc) : ((operandAdx s o).2).parked = s.parked := by cases o <;> simp [operandAdx]
@[simp] theorem operandAdx_mem (s : State) (o : AdxSrc) : ((operandAdx s o).2).mem = s.mem := by cases o <;> simp [operandAdx]
@[simp] theorem operandAdx_cycles (s : State) (o : AdxSrc) : ((operandAdx s o).2).cycles = s.cycles := by cases o <;> simp [operandAdx]
@[simp] theorem operandAdx_irqLinePrev (s : State) (o : AdxSrc) : ((operandAdx s o).2).irqLinePrev = s.irqLinePrev := by cases o <;> simp [operandAdx]
@[simp] theorem operandAdx_cfg (s : State) (o : AdxSrc) : ((operandAdx s o).2).cfg = s.cfg := by cases o <;> simp [operandAdx]
@[simp] theorem operandAdx_call (s : State) (o : AdxSrc) : ((operandAdx s o).2).call = s.call := by cases o <;> simp [operandAdx]
@[simp] theorem operandAdx_calls (s : State) (o : AdxSrc) : ((operandAdx s o).2).calls = s.calls := by cases o <;> simp [operandAdx]
@[simp] theorem operandAdx_chunk (s : State) (o : AdxSrc) : ((operandAdx s o).2).chunk = s.chunk := by cases o <;> simp [operandAdx]
@[simp] theorem operandAdx_reactions (s : State) (o : AdxSrc) : ((operandAdx s o).2).reactions = s.reactions := by cases o <;> simp [operandAdx]

@[simp] theorem push8_sp (s : State) (v : Byte) : (push8 s v).sp = s.sp - 1 := by simp [push8]
@[simp] theorem pull8_sp (s : State) : (pull8 s).2.sp = s.sp + 1 := by simp [pull8]
@[simp] theorem push16_sp (s : State) (w : Word) : (push16 s w).sp = s.sp - 1 - 1 := by simp [push16]
@[simp] theorem pull16_sp (s : State) : (pull16 s).2.sp = s.sp + 1 + 1 := by simp [pull16]
@[simp] theorem fetch8_pc (s : State) : (fetch8 s).2.pc = s.pc + 1 := by simp [fetch8]

/-- A read of a backed address gives the byte stored there and changes nothing (R66, R74). -/
theorem read8_backed (s : State) (a : Word) (h : backed s.cfg a = true) : read8 s a = (memGet s.mem a.toNat, s) := by
  unfold backed at h
  unfold read8
  split at h
  · next r hr =>
    simp only [Bool.or_eq_true, decide_eq_true_eq] at h
    rcases h with h | h <;> simp [hr, h]
  · simp at h

/-- A read of an unmapped address gives the sentinel and changes nothing (R66). -/
theorem read8_unmapped (s : State) (a : Word) (h : ownerOf s.cfg.regions a = none) : read8 s a = (s.cfg.sentinel, s) := by
  simp [read8, h]

/-- A write to a read-write region replaces the byte and changes nothing else (R67). -/
theorem write8_readWrite (s : State) (a : Word) (v : Byte) (r : Region) (h : ownerOf s.cfg.regions a = some r)
    (hm : r.mode = .readWrite) : write8 s a v = s.setMem (memSet s.mem a.toNat v) := by
  simp [write8, h, hm]

/-- The memory after a write: the byte replaced where the region is read-write, and as before everywhere else (R64, R67). -/
theorem write8_mem (s : State) (a : Word) (v : Byte) :
    (write8 s a v).mem = memSet s.mem a.toNat v ∧ backed s.cfg a = true ∨ (write8 s a v).mem = s.mem := by
  unfold write8 backed
  split
  · exact .inr rfl
  · next r hr =>
    split
    · next hm => exact .inl ⟨rfl, by simp [hr, hm]⟩
    all_goals exact .inr rfl

end Sys2Proof.Machine
end

