-- ==== Sys2Proof/Laws/Commute.lean ====
section
/-! SUPPORT. A memory access commutes with an update of any field it neither reads nor writes. -/

namespace Sys2Proof.Machine

@[simp] theorem read8_setA (s : State) (v : Byte) (a : Word) :
    read8 (s.setA v) a = ((read8 s a).1, (read8 s a).2.setA v) := by
  simp only [read8, State.setA_cfg]
  split
  · rfl
  · split <;> rfl

@[simp] theorem read16_setA (s : State) (v : Byte) (a : Word) :
    read16 (s.setA v) a = ((read16 s a).1, (read16 s a).2.setA v) := by
  simp only [read16, read8_setA]

@[simp] theorem write8_setA (s : State) (v : Byte) (a : Word) (m : Byte) :
    write8 (s.setA v) a m = (write8 s a m).setA v := by
  simp only [write8, State.setA_cfg]
  split
  · rfl
  · split <;> rfl

@[simp] theorem read8_setB (s : State) (v : Byte) (a : Word) :
    read8 (s.setB v) a = ((read8 s a).1, (read8 s a).2.setB v) := by
  simp only [read8, State.setB_cfg]
  split
  · rfl
  · split <;> rfl

@[simp] theorem read16_setB (s : State) (v : Byte) (a : Word) :
    read16 (s.setB v) a = ((read16 s a).1, (read16 s a).2.setB v) := by
  simp only [read16, read8_setB]

@[simp] theorem write8_setB (s : State) (v : Byte) (a : Word) (m : Byte) :
    write8 (s.setB v) a m = (write8 s a m).setB v := by
  simp only [write8, State.setB_cfg]
  split
  · rfl
  · split <;> rfl

@[simp] theorem read8_setX (s : State) (w : Word) (a : Word) :
    read8 (s.setX w) a = ((read8 s a).1, (read8 s a).2.setX w) := by
  simp only [read8, State.setX_cfg]
  split
  · rfl
  · split <;> rfl

@[simp] theorem read16_setX (s : State) (w : Word) (a : Word) :
    read16 (s.setX w) a = ((read16 s a).1, (read16 s a).2.setX w) := by
  simp only [read16, read8_setX]

@[simp] theorem write8_setX (s : State) (w : Word) (a : Word) (m : Byte) :
    write8 (s.setX w) a m = (write8 s a m).setX w := by
  simp only [write8, State.setX_cfg]
  split
  · rfl
  · split <;> rfl

@[simp] theorem read8_setSp (s : State) (w : Word) (a : Word) :
    read8 (s.setSp w) a = ((read8 s a).1, (read8 s a).2.setSp w) := by
  simp only [read8, State.setSp_cfg]
  split
  · rfl
  · split <;> rfl

@[simp] theorem read16_setSp (s : State) (w : Word) (a : Word) :
    read16 (s.setSp w) a = ((read16 s a).1, (read16 s a).2.setSp w) := by
  simp only [read16, read8_setSp]

@[simp] theorem write8_setSp (s : State) (w : Word) (a : Word) (m : Byte) :
    write8 (s.setSp w) a m = (write8 s a m).setSp w := by
  simp only [write8, State.setSp_cfg]
  split
  · rfl
  · split <;> rfl

@[simp] theorem read8_setPc (s : State) (w : Word) (a : Word) :
    read8 (s.setPc w) a = ((read8 s a).1, (read8 s a).2.setPc w) := by
  simp only [read8, State.setPc_cfg]
  split
  · rfl
  · split <;> rfl

@[simp] theorem read16_setPc (s : State) (w : Word) (a : Word) :
    read16 (s.setPc w) a = ((read16 s a).1, (read16 s a).2.setPc w) := by
  simp only [read16, read8_setPc]

@[simp] theorem write8_setPc (s : State) (w : Word) (a : Word) (m : Byte) :
    write8 (s.setPc w) a m = (write8 s a m).setPc w := by
  simp only [write8, State.setPc_cfg]
  split
  · rfl
  · split <;> rfl

@[simp] theorem read8_setFlags (s : State) (f : Flags) (a : Word) :
    read8 (s.setFlags f) a = ((read8 s a).1, (read8 s a).2.setFlags f) := by
  simp only [read8, State.setFlags_cfg]
  split
  · rfl
  · split <;> rfl

@[simp] theorem read16_setFlags (s : State) (f : Flags) (a : Word) :
    read16 (s.setFlags f) a = ((read16 s a).1, (read16 s a).2.setFlags f) := by
  simp only [read16, read8_setFlags]

@[simp] theorem write8_setFlags (s : State) (f : Flags) (a : Word) (m : Byte) :
    write8 (s.setFlags f) a m = (write8 s a m).setFlags f := by
  simp only [write8, State.setFlags_cfg]
  split
  · rfl
  · split <;> rfl

@[simp] theorem read8_setResetPending (s : State) (b : Bool) (a : Word) :
    read8 (s.setResetPending b) a = ((read8 s a).1, (read8 s a).2.setResetPending b) := by
  simp only [read8, State.setResetPending_cfg]
  split
  · rfl
  · split <;> rfl

@[simp] theorem read16_setResetPending (s : State) (b : Bool) (a : Word) :
    read16 (s.setResetPending b) a = ((read16 s a).1, (read16 s a).2.setResetPending b) := by
  simp only [read16, read8_setResetPending]

@[simp] theorem write8_setResetPending (s : State) (b : Bool) (a : Word) (m : Byte) :
    write8 (s.setResetPending b) a m = (write8 s a m).setResetPending b := by
  simp only [write8, State.setResetPending_cfg]
  split
  · rfl
  · split <;> rfl

@[simp] theorem read8_setNmiPending (s : State) (b : Bool) (a : Word) :
    read8 (s.setNmiPending b) a = ((read8 s a).1, (read8 s a).2.setNmiPending b) := by
  simp only [read8, State.setNmiPending_cfg]
  split
  · rfl
  · split <;> rfl

@[simp] theorem read16_setNmiPending (s : State) (b : Bool) (a : Word) :
    read16 (s.setNmiPending b) a = ((read16 s a).1, (read16 s a).2.setNmiPending b) := by
  simp only [read16, read8_setNmiPending]

@[simp] theorem write8_setNmiPending (s : State) (b : Bool) (a : Word) (m : Byte) :
    write8 (s.setNmiPending b) a m = (write8 s a m).setNmiPending b := by
  simp only [write8, State.setNmiPending_cfg]
  split
  · rfl
  · split <;> rfl

@[simp] theorem read8_setIrqPending (s : State) (b : Bool) (a : Word) :
    read8 (s.setIrqPending b) a = ((read8 s a).1, (read8 s a).2.setIrqPending b) := by
  simp only [read8, State.setIrqPending_cfg]
  split
  · rfl
  · split <;> rfl

@[simp] theorem read16_setIrqPending (s : State) (b : Bool) (a : Word) :
    read16 (s.setIrqPending b) a = ((read16 s a).1, (read16 s a).2.setIrqPending b) := by
  simp only [read16, read8_setIrqPending]

@[simp] theorem write8_setIrqPending (s : State) (b : Bool) (a : Word) (m : Byte) :
    write8 (s.setIrqPending b) a m = (write8 s a m).setIrqPending b := by
  simp only [write8, State.setIrqPending_cfg]
  split
  · rfl
  · split <;> rfl

@[simp] theorem read8_setHalt (s : State) (b : Bool) (a : Word) :
    read8 (s.setHalt b) a = ((read8 s a).1, (read8 s a).2.setHalt b) := by
  simp only [read8, State.setHalt_cfg]
  split
  · rfl
  · split <;> rfl

@[simp] theorem read16_setHalt (s : State) (b : Bool) (a : Word) :
    read16 (s.setHalt b) a = ((read16 s a).1, (read16 s a).2.setHalt b) := by
  simp only [read16, read8_setHalt]

@[simp] theorem write8_setHalt (s : State) (b : Bool) (a : Word) (m : Byte) :
    write8 (s.setHalt b) a m = (write8 s a m).setHalt b := by
  simp only [write8, State.setHalt_cfg]
  split
  · rfl
  · split <;> rfl

@[simp] theorem read8_setParked (s : State) (b : Bool) (a : Word) :
    read8 (s.setParked b) a = ((read8 s a).1, (read8 s a).2.setParked b) := by
  simp only [read8, State.setParked_cfg]
  split
  · rfl
  · split <;> rfl

@[simp] theorem read16_setParked (s : State) (b : Bool) (a : Word) :
    read16 (s.setParked b) a = ((read16 s a).1, (read16 s a).2.setParked b) := by
  simp only [read16, read8_setParked]

@[simp] theorem write8_setParked (s : State) (b : Bool) (a : Word) (m : Byte) :
    write8 (s.setParked b) a m = (write8 s a m).setParked b := by
  simp only [write8, State.setParked_cfg]
  split
  · rfl
  · split <;> rfl

@[simp] theorem read8_setCycles (s : State) (n : Nat) (a : Word) :
    read8 (s.setCycles n) a = ((read8 s a).1, (read8 s a).2.setCycles n) := by
  simp only [read8, State.setCycles_cfg]
  split
  · rfl
  · split <;> rfl

@[simp] theorem read16_setCycles (s : State) (n : Nat) (a : Word) :
    read16 (s.setCycles n) a = ((read16 s a).1, (read16 s a).2.setCycles n) := by
  simp only [read16, read8_setCycles]

@[simp] theorem write8_setCycles (s : State) (n : Nat) (a : Word) (m : Byte) :
    write8 (s.setCycles n) a m = (write8 s a m).setCycles n := by
  simp only [write8, State.setCycles_cfg]
  split
  · rfl
  · split <;> rfl

@[simp] theorem read8_setIrqLinePrev (s : State) (b : Bool) (a : Word) :
    read8 (s.setIrqLinePrev b) a = ((read8 s a).1, (read8 s a).2.setIrqLinePrev b) := by
  simp only [read8, State.setIrqLinePrev_cfg]
  split
  · rfl
  · split <;> rfl

@[simp] theorem read16_setIrqLinePrev (s : State) (b : Bool) (a : Word) :
    read16 (s.setIrqLinePrev b) a = ((read16 s a).1, (read16 s a).2.setIrqLinePrev b) := by
  simp only [read16, read8_setIrqLinePrev]

@[simp] theorem write8_setIrqLinePrev (s : State) (b : Bool) (a : Word) (m : Byte) :
    write8 (s.setIrqLinePrev b) a m = (write8 s a m).setIrqLinePrev b := by
  simp only [write8, State.setIrqLinePrev_cfg]
  split
  · rfl
  · split <;> rfl

@[simp] theorem read8_setCall (s : State) (c : Option Call) (a : Word) :
    read8 (s.setCall c) a = ((read8 s a).1, (read8 s a).2.setCall c) := by
  simp only [read8, State.setCall_cfg]
  split
  · rfl
  · split <;> rfl

@[simp] theorem read16_setCall (s : State) (c : Option Call) (a : Word) :
    read16 (s.setCall c) a = ((read16 s a).1, (read16 s a).2.setCall c) := by
  simp only [read16, read8_setCall]

@[simp] theorem write8_setCall (s : State) (c : Option Call) (a : Word) (m : Byte) :
    write8 (s.setCall c) a m = (write8 s a m).setCall c := by
  simp only [write8, State.setCall_cfg]
  split
  · rfl
  · split <;> rfl

@[simp] theorem read8_setCalls (s : State) (cs : List HostCall) (a : Word) :
    read8 (s.setCalls cs) a = ((read8 s a).1, (read8 s a).2.setCalls cs) := by
  simp only [read8, State.setCalls_cfg]
  split
  · rfl
  · split <;> rfl

@[simp] theorem read16_setCalls (s : State) (cs : List HostCall) (a : Word) :
    read16 (s.setCalls cs) a = ((read16 s a).1, (read16 s a).2.setCalls cs) := by
  simp only [read16, read8_setCalls]

@[simp] theorem write8_setCalls (s : State) (cs : List HostCall) (a : Word) (m : Byte) :
    write8 (s.setCalls cs) a m = (write8 s a m).setCalls cs := by
  simp only [write8, State.setCalls_cfg]
  split
  · rfl
  · split <;> rfl

@[simp] theorem read8_setChunk (s : State) (n : Nat) (a : Word) :
    read8 (s.setChunk n) a = ((read8 s a).1, (read8 s a).2.setChunk n) := by
  simp only [read8, State.setChunk_cfg]
  split
  · rfl
  · split <;> rfl

@[simp] theorem read16_setChunk (s : State) (n : Nat) (a : Word) :
    read16 (s.setChunk n) a = ((read16 s a).1, (read16 s a).2.setChunk n) := by
  simp only [read16, read8_setChunk]

@[simp] theorem write8_setChunk (s : State) (n : Nat) (a : Word) (m : Byte) :
    write8 (s.setChunk n) a m = (write8 s a m).setChunk n := by
  simp only [write8, State.setChunk_cfg]
  split
  · rfl
  · split <;> rfl

@[simp] theorem read8_setReactions (s : State) (es : List (List Signal)) (a : Word) :
    read8 (s.setReactions es) a = ((read8 s a).1, (read8 s a).2.setReactions es) := by
  simp only [read8, State.setReactions_cfg]
  split
  · rfl
  · split <;> rfl

@[simp] theorem read16_setReactions (s : State) (es : List (List Signal)) (a : Word) :
    read16 (s.setReactions es) a = ((read16 s a).1, (read16 s a).2.setReactions es) := by
  simp only [read16, read8_setReactions]

@[simp] theorem write8_setReactions (s : State) (es : List (List Signal)) (a : Word) (m : Byte) :
    write8 (s.setReactions es) a m = (write8 s a m).setReactions es := by
  simp only [write8, State.setReactions_cfg]
  split
  · rfl
  · split <;> rfl

@[simp] theorem push8_setNmiPending (s : State) (b : Bool) (m : Byte) : push8 (s.setNmiPending b) m = (push8 s m).setNmiPending b := by
  simp only [push8, write8_setNmiPending, State.setNmiPending_sp]
  rfl

@[simp] theorem push16_setNmiPending (s : State) (b : Bool) (w : Word) : push16 (s.setNmiPending b) w = (push16 s w).setNmiPending b := by
  simp only [push16, push8_setNmiPending]

@[simp] theorem pushAll_setNmiPending (s : State) (b : Bool) : pushAll (s.setNmiPending b) = (pushAll s).setNmiPending b := by
  simp only [pushAll, push16_setNmiPending, push8_setNmiPending, State.setNmiPending_pc, State.setNmiPending_x, State.setNmiPending_a, State.setNmiPending_b,
    State.setNmiPending_flags]

@[simp] theorem push8_setIrqPending (s : State) (b : Bool) (m : Byte) : push8 (s.setIrqPending b) m = (push8 s m).setIrqPending b := by
  simp only [push8, write8_setIrqPending, State.setIrqPending_sp]
  rfl

@[simp] theorem push16_setIrqPending (s : State) (b : Bool) (w : Word) : push16 (s.setIrqPending b) w = (push16 s w).setIrqPending b := by
  simp only [push16, push8_setIrqPending]

@[simp] theorem pushAll_setIrqPending (s : State) (b : Bool) : pushAll (s.setIrqPending b) = (pushAll s).setIrqPending b := by
  simp only [pushAll, push16_setIrqPending, push8_setIrqPending, State.setIrqPending_pc, State.setIrqPending_x, State.setIrqPending_a, State.setIrqPending_b,
    State.setIrqPending_flags]

@[simp] theorem push8_setParked (s : State) (b : Bool) (m : Byte) : push8 (s.setParked b) m = (push8 s m).setParked b := by
  simp only [push8, write8_setParked, State.setParked_sp]
  rfl

@[simp] theorem push16_setParked (s : State) (b : Bool) (w : Word) : push16 (s.setParked b) w = (push16 s w).setParked b := by
  simp only [push16, push8_setParked]

@[simp] theorem pushAll_setParked (s : State) (b : Bool) : pushAll (s.setParked b) = (pushAll s).setParked b := by
  simp only [pushAll, push16_setParked, push8_setParked, State.setParked_pc, State.setParked_x, State.setParked_a, State.setParked_b,
    State.setParked_flags]

end Sys2Proof.Machine
end

