-- ==== Sys2Proof/Laws/Decode.lean ====
section
/-! SUPPORT. The opcode byte and the operand bytes at each constructor, and halves and joins of words. -/

namespace Sys2Proof

@[simp] theorem opcode_ldaa (o : Src8) : (Instr.ldaa o).opcode = o.pick 0x86 0x96 0xA6 0xB6 := rfl
@[simp] theorem opcode_ldab (o : Src8) : (Instr.ldab o).opcode = o.pick 0xC6 0xD6 0xE6 0xF6 := rfl
@[simp] theorem opcode_staa (d : Dst) : (Instr.staa d).opcode = d.pick 0x97 0xA7 0xB7 := rfl
@[simp] theorem opcode_stab (d : Dst) : (Instr.stab d).opcode = d.pick 0xD7 0xE7 0xF7 := rfl
@[simp] theorem opcode_ldx (o : Src16) : (Instr.ldx o).opcode = o.pick 0xCE 0xDE 0xEE 0xFE := rfl
@[simp] theorem opcode_lds (o : Src16) : (Instr.lds o).opcode = o.pick 0x8E 0x9E 0xAE 0xBE := rfl
@[simp] theorem opcode_stx (d : Dst) : (Instr.stx d).opcode = d.pick 0xDF 0xEF 0xFF := rfl
@[simp] theorem opcode_sts (d : Dst) : (Instr.sts d).opcode = d.pick 0x9F 0xAF 0xBF := rfl
@[simp] theorem opcode_tab : Instr.tab.opcode = 0x16 := rfl
@[simp] theorem opcode_tba : Instr.tba.opcode = 0x17 := rfl
@[simp] theorem opcode_tsx : Instr.tsx.opcode = 0x30 := rfl
@[simp] theorem opcode_txs : Instr.txs.opcode = 0x35 := rfl
@[simp] theorem opcode_psha : Instr.psha.opcode = 0x36 := rfl
@[simp] theorem opcode_pshb : Instr.pshb.opcode = 0x37 := rfl
@[simp] theorem opcode_pula : Instr.pula.opcode = 0x32 := rfl
@[simp] theorem opcode_pulb : Instr.pulb.opcode = 0x33 := rfl
@[simp] theorem opcode_clra : Instr.clra.opcode = 0x4F := rfl
@[simp] theorem opcode_clrb : Instr.clrb.opcode = 0x5F := rfl
@[simp] theorem opcode_clr (m : Loc) : (Instr.clr m).opcode = m.pick 0x6F 0x7F := rfl
@[simp] theorem opcode_adda (o : Src8) : (Instr.adda o).opcode = o.pick 0x8B 0x9B 0xAB 0xBB := rfl
@[simp] theorem opcode_addb (o : Src8) : (Instr.addb o).opcode = o.pick 0xCB 0xDB 0xEB 0xFB := rfl
@[simp] theorem opcode_adca (o : Src8) : (Instr.adca o).opcode = o.pick 0x89 0x99 0xA9 0xB9 := rfl
@[simp] theorem opcode_adcb (o : Src8) : (Instr.adcb o).opcode = o.pick 0xC9 0xD9 0xE9 0xF9 := rfl
@[simp] theorem opcode_aba : Instr.aba.opcode = 0x1B := rfl
@[simp] theorem opcode_suba (o : Src8) : (Instr.suba o).opcode = o.pick 0x80 0x90 0xA0 0xB0 := rfl
@[simp] theorem opcode_subb (o : Src8) : (Instr.subb o).opcode = o.pick 0xC0 0xD0 0xE0 0xF0 := rfl
@[simp] theorem opcode_sbca (o : Src8) : (Instr.sbca o).opcode = o.pick 0x82 0x92 0xA2 0xB2 := rfl
@[simp] theorem opcode_sbcb (o : Src8) : (Instr.sbcb o).opcode = o.pick 0xC2 0xD2 0xE2 0xF2 := rfl
@[simp] theorem opcode_sba : Instr.sba.opcode = 0x10 := rfl
@[simp] theorem opcode_cmpa (o : Src8) : (Instr.cmpa o).opcode = o.pick 0x81 0x91 0xA1 0xB1 := rfl
@[simp] theorem opcode_cmpb (o : Src8) : (Instr.cmpb o).opcode = o.pick 0xC1 0xD1 0xE1 0xF1 := rfl
@[simp] theorem opcode_cba : Instr.cba.opcode = 0x11 := rfl
@[simp] theorem opcode_daa : Instr.daa.opcode = 0x19 := rfl
@[simp] theorem opcode_nega : Instr.nega.opcode = 0x40 := rfl
@[simp] theorem opcode_negb : Instr.negb.opcode = 0x50 := rfl
@[simp] theorem opcode_neg (m : Loc) : (Instr.neg m).opcode = m.pick 0x60 0x70 := rfl
@[simp] theorem opcode_inca : Instr.inca.opcode = 0x4C := rfl
@[simp] theorem opcode_incb : Instr.incb.opcode = 0x5C := rfl
@[simp] theorem opcode_inc (m : Loc) : (Instr.inc m).opcode = m.pick 0x6C 0x7C := rfl
@[simp] theorem opcode_deca : Instr.deca.opcode = 0x4A := rfl
@[simp] theorem opcode_decb : Instr.decb.opcode = 0x5A := rfl
@[simp] theorem opcode_dec (m : Loc) : (Instr.dec m).opcode = m.pick 0x6A 0x7A := rfl
@[simp] theorem opcode_tsta : Instr.tsta.opcode = 0x4D := rfl
@[simp] theorem opcode_tstb : Instr.tstb.opcode = 0x5D := rfl
@[simp] theorem opcode_tst (m : Loc) : (Instr.tst m).opcode = m.pick 0x6D 0x7D := rfl
@[simp] theorem opcode_inx : Instr.inx.opcode = 0x08 := rfl
@[simp] theorem opcode_dex : Instr.dex.opcode = 0x09 := rfl
@[simp] theorem opcode_ins : Instr.ins.opcode = 0x31 := rfl
@[simp] theorem opcode_des : Instr.des.opcode = 0x34 := rfl
@[simp] theorem opcode_cpx (o : Src16) : (Instr.cpx o).opcode = o.pick 0x8C 0x9C 0xAC 0xBC := rfl
@[simp] theorem opcode_anda (o : Src8) : (Instr.anda o).opcode = o.pick 0x84 0x94 0xA4 0xB4 := rfl
@[simp] theorem opcode_andb (o : Src8) : (Instr.andb o).opcode = o.pick 0xC4 0xD4 0xE4 0xF4 := rfl
@[simp] theorem opcode_oraa (o : Src8) : (Instr.oraa o).opcode = o.pick 0x8A 0x9A 0xAA 0xBA := rfl
@[simp] theorem opcode_orab (o : Src8) : (Instr.orab o).opcode = o.pick 0xCA 0xDA 0xEA 0xFA := rfl
@[simp] theorem opcode_eora (o : Src8) : (Instr.eora o).opcode = o.pick 0x88 0x98 0xA8 0xB8 := rfl
@[simp] theorem opcode_eorb (o : Src8) : (Instr.eorb o).opcode = o.pick 0xC8 0xD8 0xE8 0xF8 := rfl
@[simp] theorem opcode_bita (o : Src8) : (Instr.bita o).opcode = o.pick 0x85 0x95 0xA5 0xB5 := rfl
@[simp] theorem opcode_bitb (o : Src8) : (Instr.bitb o).opcode = o.pick 0xC5 0xD5 0xE5 0xF5 := rfl
@[simp] theorem opcode_coma : Instr.coma.opcode = 0x43 := rfl
@[simp] theorem opcode_comb : Instr.comb.opcode = 0x53 := rfl
@[simp] theorem opcode_com (m : Loc) : (Instr.com m).opcode = m.pick 0x63 0x73 := rfl
@[simp] theorem opcode_asla : Instr.asla.opcode = 0x48 := rfl
@[simp] theorem opcode_aslb : Instr.aslb.opcode = 0x58 := rfl
@[simp] theorem opcode_asl (m : Loc) : (Instr.asl m).opcode = m.pick 0x68 0x78 := rfl
@[simp] theorem opcode_asra : Instr.asra.opcode = 0x47 := rfl
@[simp] theorem opcode_asrb : Instr.asrb.opcode = 0x57 := rfl
@[simp] theorem opcode_asr (m : Loc) : (Instr.asr m).opcode = m.pick 0x67 0x77 := rfl
@[simp] theorem opcode_lsra : Instr.lsra.opcode = 0x44 := rfl
@[simp] theorem opcode_lsrb : Instr.lsrb.opcode = 0x54 := rfl
@[simp] theorem opcode_lsr (m : Loc) : (Instr.lsr m).opcode = m.pick 0x64 0x74 := rfl
@[simp] theorem opcode_rola : Instr.rola.opcode = 0x49 := rfl
@[simp] theorem opcode_rolb : Instr.rolb.opcode = 0x59 := rfl
@[simp] theorem opcode_rol (m : Loc) : (Instr.rol m).opcode = m.pick 0x69 0x79 := rfl
@[simp] theorem opcode_rora : Instr.rora.opcode = 0x46 := rfl
@[simp] theorem opcode_rorb : Instr.rorb.opcode = 0x56 := rfl
@[simp] theorem opcode_ror (m : Loc) : (Instr.ror m).opcode = m.pick 0x66 0x76 := rfl
@[simp] theorem opcode_bra (rel : Byte) : (Instr.bra rel).opcode = 0x20 := rfl
@[simp] theorem opcode_bhi (rel : Byte) : (Instr.bhi rel).opcode = 0x22 := rfl
@[simp] theorem opcode_bls (rel : Byte) : (Instr.bls rel).opcode = 0x23 := rfl
@[simp] theorem opcode_bcc (rel : Byte) : (Instr.bcc rel).opcode = 0x24 := rfl
@[simp] theorem opcode_bcs (rel : Byte) : (Instr.bcs rel).opcode = 0x25 := rfl
@[simp] theorem opcode_bne (rel : Byte) : (Instr.bne rel).opcode = 0x26 := rfl
@[simp] theorem opcode_beq (rel : Byte) : (Instr.beq rel).opcode = 0x27 := rfl
@[simp] theorem opcode_bvc (rel : Byte) : (Instr.bvc rel).opcode = 0x28 := rfl
@[simp] theorem opcode_bvs (rel : Byte) : (Instr.bvs rel).opcode = 0x29 := rfl
@[simp] theorem opcode_bpl (rel : Byte) : (Instr.bpl rel).opcode = 0x2A := rfl
@[simp] theorem opcode_bmi (rel : Byte) : (Instr.bmi rel).opcode = 0x2B := rfl
@[simp] theorem opcode_bge (rel : Byte) : (Instr.bge rel).opcode = 0x2C := rfl
@[simp] theorem opcode_blt (rel : Byte) : (Instr.blt rel).opcode = 0x2D := rfl
@[simp] theorem opcode_bgt (rel : Byte) : (Instr.bgt rel).opcode = 0x2E := rfl
@[simp] theorem opcode_ble (rel : Byte) : (Instr.ble rel).opcode = 0x2F := rfl
@[simp] theorem opcode_bsr (rel : Byte) : (Instr.bsr rel).opcode = 0x8D := rfl
@[simp] theorem opcode_jmp (m : Loc) : (Instr.jmp m).opcode = m.pick 0x6E 0x7E := rfl
@[simp] theorem opcode_jsr (m : Loc) : (Instr.jsr m).opcode = m.pick 0xAD 0xBD := rfl
@[simp] theorem opcode_rts : Instr.rts.opcode = 0x39 := rfl
@[simp] theorem opcode_nop : Instr.nop.opcode = 0x01 := rfl
@[simp] theorem opcode_clc : Instr.clc.opcode = 0x0C := rfl
@[simp] theorem opcode_sec : Instr.sec.opcode = 0x0D := rfl
@[simp] theorem opcode_clv : Instr.clv.opcode = 0x0A := rfl
@[simp] theorem opcode_sev : Instr.sev.opcode = 0x0B := rfl
@[simp] theorem opcode_cli : Instr.cli.opcode = 0x0E := rfl
@[simp] theorem opcode_sei : Instr.sei.opcode = 0x0F := rfl
@[simp] theorem opcode_tap : Instr.tap.opcode = 0x06 := rfl
@[simp] theorem opcode_tpa : Instr.tpa.opcode = 0x07 := rfl
@[simp] theorem opcode_swi : Instr.swi.opcode = 0x3F := rfl
@[simp] theorem opcode_rti : Instr.rti.opcode = 0x3B := rfl
@[simp] theorem opcode_wai : Instr.wai.opcode = 0x3E := rfl
@[simp] theorem opcode_nim (imm off : Byte) : (Instr.nim imm off).opcode = 0x71 := rfl
@[simp] theorem opcode_oim (imm off : Byte) : (Instr.oim imm off).opcode = 0x72 := rfl
@[simp] theorem opcode_xim (imm off : Byte) : (Instr.xim imm off).opcode = 0x75 := rfl
@[simp] theorem opcode_tmm (imm off : Byte) : (Instr.tmm imm off).opcode = 0x7B := rfl
@[simp] theorem opcode_adx (o : AdxSrc) : (Instr.adx o).opcode = o.pick 0xEC 0xFC := rfl
@[simp] theorem opcode_unimpl (op : Byte) : (Instr.unimpl op).opcode = op := rfl

@[simp] theorem operandBytes_ldaa (o : Src8) : (Instr.ldaa o).operandBytes = o.bytes := rfl
@[simp] theorem operandBytes_ldab (o : Src8) : (Instr.ldab o).operandBytes = o.bytes := rfl
@[simp] theorem operandBytes_staa (d : Dst) : (Instr.staa d).operandBytes = d.bytes := rfl
@[simp] theorem operandBytes_stab (d : Dst) : (Instr.stab d).operandBytes = d.bytes := rfl
@[simp] theorem operandBytes_ldx (o : Src16) : (Instr.ldx o).operandBytes = o.bytes := rfl
@[simp] theorem operandBytes_lds (o : Src16) : (Instr.lds o).operandBytes = o.bytes := rfl
@[simp] theorem operandBytes_stx (d : Dst) : (Instr.stx d).operandBytes = d.bytes := rfl
@[simp] theorem operandBytes_sts (d : Dst) : (Instr.sts d).operandBytes = d.bytes := rfl
@[simp] theorem operandBytes_tab : Instr.tab.operandBytes = [] := rfl
@[simp] theorem operandBytes_tba : Instr.tba.operandBytes = [] := rfl
@[simp] theorem operandBytes_tsx : Instr.tsx.operandBytes = [] := rfl
@[simp] theorem operandBytes_txs : Instr.txs.operandBytes = [] := rfl
@[simp] theorem operandBytes_psha : Instr.psha.operandBytes = [] := rfl
@[simp] theorem operandBytes_pshb : Instr.pshb.operandBytes = [] := rfl
@[simp] theorem operandBytes_pula : Instr.pula.operandBytes = [] := rfl
@[simp] theorem operandBytes_pulb : Instr.pulb.operandBytes = [] := rfl
@[simp] theorem operandBytes_clra : Instr.clra.operandBytes = [] := rfl
@[simp] theorem operandBytes_clrb : Instr.clrb.operandBytes = [] := rfl
@[simp] theorem operandBytes_clr (m : Loc) : (Instr.clr m).operandBytes = m.bytes := rfl
@[simp] theorem operandBytes_adda (o : Src8) : (Instr.adda o).operandBytes = o.bytes := rfl
@[simp] theorem operandBytes_addb (o : Src8) : (Instr.addb o).operandBytes = o.bytes := rfl
@[simp] theorem operandBytes_adca (o : Src8) : (Instr.adca o).operandBytes = o.bytes := rfl
@[simp] theorem operandBytes_adcb (o : Src8) : (Instr.adcb o).operandBytes = o.bytes := rfl
@[simp] theorem operandBytes_aba : Instr.aba.operandBytes = [] := rfl
@[simp] theorem operandBytes_suba (o : Src8) : (Instr.suba o).operandBytes = o.bytes := rfl
@[simp] theorem operandBytes_subb (o : Src8) : (Instr.subb o).operandBytes = o.bytes := rfl
@[simp] theorem operandBytes_sbca (o : Src8) : (Instr.sbca o).operandBytes = o.bytes := rfl
@[simp] theorem operandBytes_sbcb (o : Src8) : (Instr.sbcb o).operandBytes = o.bytes := rfl
@[simp] theorem operandBytes_sba : Instr.sba.operandBytes = [] := rfl
@[simp] theorem operandBytes_cmpa (o : Src8) : (Instr.cmpa o).operandBytes = o.bytes := rfl
@[simp] theorem operandBytes_cmpb (o : Src8) : (Instr.cmpb o).operandBytes = o.bytes := rfl
@[simp] theorem operandBytes_cba : Instr.cba.operandBytes = [] := rfl
@[simp] theorem operandBytes_daa : Instr.daa.operandBytes = [] := rfl
@[simp] theorem operandBytes_nega : Instr.nega.operandBytes = [] := rfl
@[simp] theorem operandBytes_negb : Instr.negb.operandBytes = [] := rfl
@[simp] theorem operandBytes_neg (m : Loc) : (Instr.neg m).operandBytes = m.bytes := rfl
@[simp] theorem operandBytes_inca : Instr.inca.operandBytes = [] := rfl
@[simp] theorem operandBytes_incb : Instr.incb.operandBytes = [] := rfl
@[simp] theorem operandBytes_inc (m : Loc) : (Instr.inc m).operandBytes = m.bytes := rfl
@[simp] theorem operandBytes_deca : Instr.deca.operandBytes = [] := rfl
@[simp] theorem operandBytes_decb : Instr.decb.operandBytes = [] := rfl
@[simp] theorem operandBytes_dec (m : Loc) : (Instr.dec m).operandBytes = m.bytes := rfl
@[simp] theorem operandBytes_tsta : Instr.tsta.operandBytes = [] := rfl
@[simp] theorem operandBytes_tstb : Instr.tstb.operandBytes = [] := rfl
@[simp] theorem operandBytes_tst (m : Loc) : (Instr.tst m).operandBytes = m.bytes := rfl
@[simp] theorem operandBytes_inx : Instr.inx.operandBytes = [] := rfl
@[simp] theorem operandBytes_dex : Instr.dex.operandBytes = [] := rfl
@[simp] theorem operandBytes_ins : Instr.ins.operandBytes = [] := rfl
@[simp] theorem operandBytes_des : Instr.des.operandBytes = [] := rfl
@[simp] theorem operandBytes_cpx (o : Src16) : (Instr.cpx o).operandBytes = o.bytes := rfl
@[simp] theorem operandBytes_anda (o : Src8) : (Instr.anda o).operandBytes = o.bytes := rfl
@[simp] theorem operandBytes_andb (o : Src8) : (Instr.andb o).operandBytes = o.bytes := rfl
@[simp] theorem operandBytes_oraa (o : Src8) : (Instr.oraa o).operandBytes = o.bytes := rfl
@[simp] theorem operandBytes_orab (o : Src8) : (Instr.orab o).operandBytes = o.bytes := rfl
@[simp] theorem operandBytes_eora (o : Src8) : (Instr.eora o).operandBytes = o.bytes := rfl
@[simp] theorem operandBytes_eorb (o : Src8) : (Instr.eorb o).operandBytes = o.bytes := rfl
@[simp] theorem operandBytes_bita (o : Src8) : (Instr.bita o).operandBytes = o.bytes := rfl
@[simp] theorem operandBytes_bitb (o : Src8) : (Instr.bitb o).operandBytes = o.bytes := rfl
@[simp] theorem operandBytes_coma : Instr.coma.operandBytes = [] := rfl
@[simp] theorem operandBytes_comb : Instr.comb.operandBytes = [] := rfl
@[simp] theorem operandBytes_com (m : Loc) : (Instr.com m).operandBytes = m.bytes := rfl
@[simp] theorem operandBytes_asla : Instr.asla.operandBytes = [] := rfl
@[simp] theorem operandBytes_aslb : Instr.aslb.operandBytes = [] := rfl
@[simp] theorem operandBytes_asl (m : Loc) : (Instr.asl m).operandBytes = m.bytes := rfl
@[simp] theorem operandBytes_asra : Instr.asra.operandBytes = [] := rfl
@[simp] theorem operandBytes_asrb : Instr.asrb.operandBytes = [] := rfl
@[simp] theorem operandBytes_asr (m : Loc) : (Instr.asr m).operandBytes = m.bytes := rfl
@[simp] theorem operandBytes_lsra : Instr.lsra.operandBytes = [] := rfl
@[simp] theorem operandBytes_lsrb : Instr.lsrb.operandBytes = [] := rfl
@[simp] theorem operandBytes_lsr (m : Loc) : (Instr.lsr m).operandBytes = m.bytes := rfl
@[simp] theorem operandBytes_rola : Instr.rola.operandBytes = [] := rfl
@[simp] theorem operandBytes_rolb : Instr.rolb.operandBytes = [] := rfl
@[simp] theorem operandBytes_rol (m : Loc) : (Instr.rol m).operandBytes = m.bytes := rfl
@[simp] theorem operandBytes_rora : Instr.rora.operandBytes = [] := rfl
@[simp] theorem operandBytes_rorb : Instr.rorb.operandBytes = [] := rfl
@[simp] theorem operandBytes_ror (m : Loc) : (Instr.ror m).operandBytes = m.bytes := rfl
@[simp] theorem operandBytes_bra (rel : Byte) : (Instr.bra rel).operandBytes = [rel] := rfl
@[simp] theorem operandBytes_bhi (rel : Byte) : (Instr.bhi rel).operandBytes = [rel] := rfl
@[simp] theorem operandBytes_bls (rel : Byte) : (Instr.bls rel).operandBytes = [rel] := rfl
@[simp] theorem operandBytes_bcc (rel : Byte) : (Instr.bcc rel).operandBytes = [rel] := rfl
@[simp] theorem operandBytes_bcs (rel : Byte) : (Instr.bcs rel).operandBytes = [rel] := rfl
@[simp] theorem operandBytes_bne (rel : Byte) : (Instr.bne rel).operandBytes = [rel] := rfl
@[simp] theorem operandBytes_beq (rel : Byte) : (Instr.beq rel).operandBytes = [rel] := rfl
@[simp] theorem operandBytes_bvc (rel : Byte) : (Instr.bvc rel).operandBytes = [rel] := rfl
@[simp] theorem operandBytes_bvs (rel : Byte) : (Instr.bvs rel).operandBytes = [rel] := rfl
@[simp] theorem operandBytes_bpl (rel : Byte) : (Instr.bpl rel).operandBytes = [rel] := rfl
@[simp] theorem operandBytes_bmi (rel : Byte) : (Instr.bmi rel).operandBytes = [rel] := rfl
@[simp] theorem operandBytes_bge (rel : Byte) : (Instr.bge rel).operandBytes = [rel] := rfl
@[simp] theorem operandBytes_blt (rel : Byte) : (Instr.blt rel).operandBytes = [rel] := rfl
@[simp] theorem operandBytes_bgt (rel : Byte) : (Instr.bgt rel).operandBytes = [rel] := rfl
@[simp] theorem operandBytes_ble (rel : Byte) : (Instr.ble rel).operandBytes = [rel] := rfl
@[simp] theorem operandBytes_bsr (rel : Byte) : (Instr.bsr rel).operandBytes = [rel] := rfl
@[simp] theorem operandBytes_jmp (m : Loc) : (Instr.jmp m).operandBytes = m.bytes := rfl
@[simp] theorem operandBytes_jsr (m : Loc) : (Instr.jsr m).operandBytes = m.bytes := rfl
@[simp] theorem operandBytes_rts : Instr.rts.operandBytes = [] := rfl
@[simp] theorem operandBytes_nop : Instr.nop.operandBytes = [] := rfl
@[simp] theorem operandBytes_clc : Instr.clc.operandBytes = [] := rfl
@[simp] theorem operandBytes_sec : Instr.sec.operandBytes = [] := rfl
@[simp] theorem operandBytes_clv : Instr.clv.operandBytes = [] := rfl
@[simp] theorem operandBytes_sev : Instr.sev.operandBytes = [] := rfl
@[simp] theorem operandBytes_cli : Instr.cli.operandBytes = [] := rfl
@[simp] theorem operandBytes_sei : Instr.sei.operandBytes = [] := rfl
@[simp] theorem operandBytes_tap : Instr.tap.operandBytes = [] := rfl
@[simp] theorem operandBytes_tpa : Instr.tpa.operandBytes = [] := rfl
@[simp] theorem operandBytes_swi : Instr.swi.operandBytes = [] := rfl
@[simp] theorem operandBytes_rti : Instr.rti.operandBytes = [] := rfl
@[simp] theorem operandBytes_wai : Instr.wai.operandBytes = [] := rfl
@[simp] theorem operandBytes_nim (imm off : Byte) : (Instr.nim imm off).operandBytes = [imm, off] := rfl
@[simp] theorem operandBytes_oim (imm off : Byte) : (Instr.oim imm off).operandBytes = [imm, off] := rfl
@[simp] theorem operandBytes_xim (imm off : Byte) : (Instr.xim imm off).operandBytes = [imm, off] := rfl
@[simp] theorem operandBytes_tmm (imm off : Byte) : (Instr.tmm imm off).operandBytes = [imm, off] := rfl
@[simp] theorem operandBytes_adx (o : AdxSrc) : (Instr.adx o).operandBytes = o.bytes := rfl
@[simp] theorem operandBytes_unimpl (op : Byte) : (Instr.unimpl op).operandBytes = [] := rfl

/-- The two halves of a join (00_scope.md R16). -/
@[simp] theorem hi8_join (h l : Byte) : hi8 (join h l) = h := by
  ext i hi
  simp only [hi8, join, BitVec.getElem_extractLsb', BitVec.getLsbD_append]
  have : ¬ 8 + i < 8 := by omega
  simp [this, hi]

@[simp] theorem lo8_join (h l : Byte) : lo8 (join h l) = l := by
  ext i hi
  simp only [lo8, join, BitVec.getElem_extractLsb', BitVec.getLsbD_append]
  simp [hi]

/-- A word is the join of its halves (R16). -/
@[simp] theorem join_halves (w : Word) : join (hi8 w) (lo8 w) = w := by
  apply BitVec.eq_of_getLsbD_eq
  intro i hi
  have h : (join (hi8 w) (lo8 w)).getLsbD i = (hi8 w ++ lo8 w).getLsbD i := rfl
  rw [h, BitVec.getLsbD_append]
  by_cases h8 : i < 8
  · simp [lo8, h8]
  · have h1 : i - 8 < 8 := by omega
    have h2 : 8 + (i - 8) = i := by omega
    simp [hi8, h8, h1, h2]

end Sys2Proof
end

