-- ==== Sys2Proof/Laws/Exec.lean ====
section
/-! SUPPORT. `exec` at each constructor, so that no proof unfolds its match. -/

namespace Sys2Proof.Machine

@[simp] theorem exec_ldaa (o : Src8) (s : State) : exec (.ldaa o) s = execLdaa o s := rfl
@[simp] theorem exec_ldab (o : Src8) (s : State) : exec (.ldab o) s = execLdab o s := rfl
@[simp] theorem exec_staa (d : Dst) (s : State) : exec (.staa d) s = execStaa d s := rfl
@[simp] theorem exec_stab (d : Dst) (s : State) : exec (.stab d) s = execStab d s := rfl
@[simp] theorem exec_ldx (o : Src16) (s : State) : exec (.ldx o) s = execLdx o s := rfl
@[simp] theorem exec_lds (o : Src16) (s : State) : exec (.lds o) s = execLds o s := rfl
@[simp] theorem exec_stx (d : Dst) (s : State) : exec (.stx d) s = execStx d s := rfl
@[simp] theorem exec_sts (d : Dst) (s : State) : exec (.sts d) s = execSts d s := rfl
@[simp] theorem exec_tab (s : State) : exec .tab s = execTab s := rfl
@[simp] theorem exec_tba (s : State) : exec .tba s = execTba s := rfl
@[simp] theorem exec_tsx (s : State) : exec .tsx s = execTsx s := rfl
@[simp] theorem exec_txs (s : State) : exec .txs s = execTxs s := rfl
@[simp] theorem exec_psha (s : State) : exec .psha s = execPsha s := rfl
@[simp] theorem exec_pshb (s : State) : exec .pshb s = execPshb s := rfl
@[simp] theorem exec_pula (s : State) : exec .pula s = execPula s := rfl
@[simp] theorem exec_pulb (s : State) : exec .pulb s = execPulb s := rfl
@[simp] theorem exec_clra (s : State) : exec .clra s = execClra s := rfl
@[simp] theorem exec_clrb (s : State) : exec .clrb s = execClrb s := rfl
@[simp] theorem exec_clr (m : Loc) (s : State) : exec (.clr m) s = execClr m s := rfl
@[simp] theorem exec_adda (o : Src8) (s : State) : exec (.adda o) s = execAdda o s := rfl
@[simp] theorem exec_addb (o : Src8) (s : State) : exec (.addb o) s = execAddb o s := rfl
@[simp] theorem exec_adca (o : Src8) (s : State) : exec (.adca o) s = execAdca o s := rfl
@[simp] theorem exec_adcb (o : Src8) (s : State) : exec (.adcb o) s = execAdcb o s := rfl
@[simp] theorem exec_aba (s : State) : exec .aba s = execAba s := rfl
@[simp] theorem exec_suba (o : Src8) (s : State) : exec (.suba o) s = execSuba o s := rfl
@[simp] theorem exec_subb (o : Src8) (s : State) : exec (.subb o) s = execSubb o s := rfl
@[simp] theorem exec_sbca (o : Src8) (s : State) : exec (.sbca o) s = execSbca o s := rfl
@[simp] theorem exec_sbcb (o : Src8) (s : State) : exec (.sbcb o) s = execSbcb o s := rfl
@[simp] theorem exec_sba (s : State) : exec .sba s = execSba s := rfl
@[simp] theorem exec_cmpa (o : Src8) (s : State) : exec (.cmpa o) s = execCmpa o s := rfl
@[simp] theorem exec_cmpb (o : Src8) (s : State) : exec (.cmpb o) s = execCmpb o s := rfl
@[simp] theorem exec_cba (s : State) : exec .cba s = execCba s := rfl
@[simp] theorem exec_daa (s : State) : exec .daa s = execDaa s := rfl
@[simp] theorem exec_nega (s : State) : exec .nega s = execNega s := rfl
@[simp] theorem exec_negb (s : State) : exec .negb s = execNegb s := rfl
@[simp] theorem exec_neg (m : Loc) (s : State) : exec (.neg m) s = execNeg m s := rfl
@[simp] theorem exec_inca (s : State) : exec .inca s = execInca s := rfl
@[simp] theorem exec_incb (s : State) : exec .incb s = execIncb s := rfl
@[simp] theorem exec_inc (m : Loc) (s : State) : exec (.inc m) s = execInc m s := rfl
@[simp] theorem exec_deca (s : State) : exec .deca s = execDeca s := rfl
@[simp] theorem exec_decb (s : State) : exec .decb s = execDecb s := rfl
@[simp] theorem exec_dec (m : Loc) (s : State) : exec (.dec m) s = execDec m s := rfl
@[simp] theorem exec_tsta (s : State) : exec .tsta s = execTsta s := rfl
@[simp] theorem exec_tstb (s : State) : exec .tstb s = execTstb s := rfl
@[simp] theorem exec_tst (m : Loc) (s : State) : exec (.tst m) s = execTst m s := rfl
@[simp] theorem exec_inx (s : State) : exec .inx s = execInx s := rfl
@[simp] theorem exec_dex (s : State) : exec .dex s = execDex s := rfl
@[simp] theorem exec_ins (s : State) : exec .ins s = execIns s := rfl
@[simp] theorem exec_des (s : State) : exec .des s = execDes s := rfl
@[simp] theorem exec_cpx (o : Src16) (s : State) : exec (.cpx o) s = execCpx o s := rfl
@[simp] theorem exec_anda (o : Src8) (s : State) : exec (.anda o) s = execAnda o s := rfl
@[simp] theorem exec_andb (o : Src8) (s : State) : exec (.andb o) s = execAndb o s := rfl
@[simp] theorem exec_oraa (o : Src8) (s : State) : exec (.oraa o) s = execOraa o s := rfl
@[simp] theorem exec_orab (o : Src8) (s : State) : exec (.orab o) s = execOrab o s := rfl
@[simp] theorem exec_eora (o : Src8) (s : State) : exec (.eora o) s = execEora o s := rfl
@[simp] theorem exec_eorb (o : Src8) (s : State) : exec (.eorb o) s = execEorb o s := rfl
@[simp] theorem exec_bita (o : Src8) (s : State) : exec (.bita o) s = execBita o s := rfl
@[simp] theorem exec_bitb (o : Src8) (s : State) : exec (.bitb o) s = execBitb o s := rfl
@[simp] theorem exec_coma (s : State) : exec .coma s = execComa s := rfl
@[simp] theorem exec_comb (s : State) : exec .comb s = execComb s := rfl
@[simp] theorem exec_com (m : Loc) (s : State) : exec (.com m) s = execCom m s := rfl
@[simp] theorem exec_asla (s : State) : exec .asla s = execAsla s := rfl
@[simp] theorem exec_aslb (s : State) : exec .aslb s = execAslb s := rfl
@[simp] theorem exec_asl (m : Loc) (s : State) : exec (.asl m) s = execAsl m s := rfl
@[simp] theorem exec_asra (s : State) : exec .asra s = execAsra s := rfl
@[simp] theorem exec_asrb (s : State) : exec .asrb s = execAsrb s := rfl
@[simp] theorem exec_asr (m : Loc) (s : State) : exec (.asr m) s = execAsr m s := rfl
@[simp] theorem exec_lsra (s : State) : exec .lsra s = execLsra s := rfl
@[simp] theorem exec_lsrb (s : State) : exec .lsrb s = execLsrb s := rfl
@[simp] theorem exec_lsr (m : Loc) (s : State) : exec (.lsr m) s = execLsr m s := rfl
@[simp] theorem exec_rola (s : State) : exec .rola s = execRola s := rfl
@[simp] theorem exec_rolb (s : State) : exec .rolb s = execRolb s := rfl
@[simp] theorem exec_rol (m : Loc) (s : State) : exec (.rol m) s = execRol m s := rfl
@[simp] theorem exec_rora (s : State) : exec .rora s = execRora s := rfl
@[simp] theorem exec_rorb (s : State) : exec .rorb s = execRorb s := rfl
@[simp] theorem exec_ror (m : Loc) (s : State) : exec (.ror m) s = execRor m s := rfl
@[simp] theorem exec_bra (rel : Byte) (s : State) : exec (.bra rel) s = execBra rel s := rfl
@[simp] theorem exec_bhi (rel : Byte) (s : State) : exec (.bhi rel) s = execBhi rel s := rfl
@[simp] theorem exec_bls (rel : Byte) (s : State) : exec (.bls rel) s = execBls rel s := rfl
@[simp] theorem exec_bcc (rel : Byte) (s : State) : exec (.bcc rel) s = execBcc rel s := rfl
@[simp] theorem exec_bcs (rel : Byte) (s : State) : exec (.bcs rel) s = execBcs rel s := rfl
@[simp] theorem exec_bne (rel : Byte) (s : State) : exec (.bne rel) s = execBne rel s := rfl
@[simp] theorem exec_beq (rel : Byte) (s : State) : exec (.beq rel) s = execBeq rel s := rfl
@[simp] theorem exec_bvc (rel : Byte) (s : State) : exec (.bvc rel) s = execBvc rel s := rfl
@[simp] theorem exec_bvs (rel : Byte) (s : State) : exec (.bvs rel) s = execBvs rel s := rfl
@[simp] theorem exec_bpl (rel : Byte) (s : State) : exec (.bpl rel) s = execBpl rel s := rfl
@[simp] theorem exec_bmi (rel : Byte) (s : State) : exec (.bmi rel) s = execBmi rel s := rfl
@[simp] theorem exec_bge (rel : Byte) (s : State) : exec (.bge rel) s = execBge rel s := rfl
@[simp] theorem exec_blt (rel : Byte) (s : State) : exec (.blt rel) s = execBlt rel s := rfl
@[simp] theorem exec_bgt (rel : Byte) (s : State) : exec (.bgt rel) s = execBgt rel s := rfl
@[simp] theorem exec_ble (rel : Byte) (s : State) : exec (.ble rel) s = execBle rel s := rfl
@[simp] theorem exec_bsr (rel : Byte) (s : State) : exec (.bsr rel) s = execBsr rel s := rfl
@[simp] theorem exec_jmp (m : Loc) (s : State) : exec (.jmp m) s = execJmp m s := rfl
@[simp] theorem exec_jsr (m : Loc) (s : State) : exec (.jsr m) s = execJsr m s := rfl
@[simp] theorem exec_rts (s : State) : exec .rts s = execRts s := rfl
@[simp] theorem exec_nop (s : State) : exec .nop s = execNop s := rfl
@[simp] theorem exec_clc (s : State) : exec .clc s = execClc s := rfl
@[simp] theorem exec_sec (s : State) : exec .sec s = execSec s := rfl
@[simp] theorem exec_clv (s : State) : exec .clv s = execClv s := rfl
@[simp] theorem exec_sev (s : State) : exec .sev s = execSev s := rfl
@[simp] theorem exec_cli (s : State) : exec .cli s = execCli s := rfl
@[simp] theorem exec_sei (s : State) : exec .sei s = execSei s := rfl
@[simp] theorem exec_tap (s : State) : exec .tap s = execTap s := rfl
@[simp] theorem exec_tpa (s : State) : exec .tpa s = execTpa s := rfl
@[simp] theorem exec_swi (s : State) : exec .swi s = execSwi s := rfl
@[simp] theorem exec_rti (s : State) : exec .rti s = execRti s := rfl
@[simp] theorem exec_wai (s : State) : exec .wai s = execWai s := rfl
@[simp] theorem exec_nim (imm off : Byte) (s : State) : exec (.nim imm off) s = execNim imm off s := rfl
@[simp] theorem exec_oim (imm off : Byte) (s : State) : exec (.oim imm off) s = execOim imm off s := rfl
@[simp] theorem exec_xim (imm off : Byte) (s : State) : exec (.xim imm off) s = execXim imm off s := rfl
@[simp] theorem exec_tmm (imm off : Byte) (s : State) : exec (.tmm imm off) s = execTmm imm off s := rfl
@[simp] theorem exec_adx (o : AdxSrc) (s : State) : exec (.adx o) s = execAdx o s := rfl
@[simp] theorem exec_unimpl (op : Byte) (s : State) : exec (.unimpl op) s = execUnimpl op s := rfl

end Sys2Proof.Machine
end

