-- ==== Sys2Proof/Laws/Flags.lean ====
section
/-! SUPPORT. The functions of `EXT_FLAGS` leave H, I and C unchanged; and as plain data the parameter loses nothing: every record
of four functions that the spec allows is one. -/

namespace Sys2Proof.Machine

/-- An entry and a default that leave H, I and C unchanged. -/
theorem Flags.fromEntry_kept (f : Flags) (entry : Option (BitVec 3)) (d : Flags)
    (hd : d.h = f.h ∧ d.i = f.i ∧ d.c = f.c) :
    (f.fromEntry entry d).h = f.h ∧ (f.fromEntry entry d).i = f.i ∧ (f.fromEntry entry d).c = f.c := by
  cases entry
  · exact hd
  · exact ⟨rfl, rfl, rfl⟩

theorem nimFlags_kept (e : ExtFlags) (r : Byte) (f : Flags) :
    (nimFlags e r f).h = f.h ∧ (nimFlags e r f).i = f.i ∧ (nimFlags e r f).c = f.c :=
  f.fromEntry_kept _ _ ⟨rfl, rfl, rfl⟩

theorem oimFlags_kept (e : ExtFlags) (r : Byte) (f : Flags) :
    (oimFlags e r f).h = f.h ∧ (oimFlags e r f).i = f.i ∧ (oimFlags e r f).c = f.c :=
  f.fromEntry_kept _ _ ⟨rfl, rfl, rfl⟩

theorem ximFlags_kept (e : ExtFlags) (r : Byte) (f : Flags) :
    (ximFlags e r f).h = f.h ∧ (ximFlags e r f).i = f.i ∧ (ximFlags e r f).c = f.c :=
  f.fromEntry_kept _ _ ⟨rfl, rfl, rfl⟩

theorem tmmFlags_kept (e : ExtFlags) (imm m : Byte) (f : Flags) :
    (tmmFlags e imm m f).h = f.h ∧ (tmmFlags e imm m f).i = f.i ∧ (tmmFlags e imm m f).c = f.c := by
  refine f.fromEntry_kept _ _ ?_
  unfold tmmDefault
  split
  · exact ⟨rfl, rfl, rfl⟩
  · split <;> exact ⟨rfl, rfl, rfl⟩

@[simp] theorem nimFlags_h (e : ExtFlags) (r : Byte) (f : Flags) : (nimFlags e r f).h = f.h := (nimFlags_kept e r f).1
@[simp] theorem nimFlags_i (e : ExtFlags) (r : Byte) (f : Flags) : (nimFlags e r f).i = f.i := (nimFlags_kept e r f).2.1
@[simp] theorem nimFlags_c (e : ExtFlags) (r : Byte) (f : Flags) : (nimFlags e r f).c = f.c := (nimFlags_kept e r f).2.2
@[simp] theorem oimFlags_h (e : ExtFlags) (r : Byte) (f : Flags) : (oimFlags e r f).h = f.h := (oimFlags_kept e r f).1
@[simp] theorem oimFlags_i (e : ExtFlags) (r : Byte) (f : Flags) : (oimFlags e r f).i = f.i := (oimFlags_kept e r f).2.1
@[simp] theorem oimFlags_c (e : ExtFlags) (r : Byte) (f : Flags) : (oimFlags e r f).c = f.c := (oimFlags_kept e r f).2.2
@[simp] theorem ximFlags_h (e : ExtFlags) (r : Byte) (f : Flags) : (ximFlags e r f).h = f.h := (ximFlags_kept e r f).1
@[simp] theorem ximFlags_i (e : ExtFlags) (r : Byte) (f : Flags) : (ximFlags e r f).i = f.i := (ximFlags_kept e r f).2.1
@[simp] theorem ximFlags_c (e : ExtFlags) (r : Byte) (f : Flags) : (ximFlags e r f).c = f.c := (ximFlags_kept e r f).2.2
@[simp] theorem tmmFlags_h (e : ExtFlags) (imm m : Byte) (f : Flags) : (tmmFlags e imm m f).h = f.h := (tmmFlags_kept e imm m f).1
@[simp] theorem tmmFlags_i (e : ExtFlags) (imm m : Byte) (f : Flags) : (tmmFlags e imm m f).i = f.i := (tmmFlags_kept e imm m f).2.1
@[simp] theorem tmmFlags_c (e : ExtFlags) (imm m : Byte) (f : Flags) : (tmmFlags e imm m f).c = f.c := (tmmFlags_kept e imm m f).2.2

/-- A listed key is looked up at its own value. -/
theorem lookup_map_of_mem {α β : Type} [BEq α] [LawfulBEq α] (g : α → β) (keys : List α) (k : α) (h : k ∈ keys) :
    (keys.map (fun a => (a, g a))).lookup k = some (g k) := by
  induction keys with
  | nil => cases h
  | cons a keys ih =>
    rw [List.map_cons, List.lookup_cons]
    by_cases hk : k = a
    · simp [hk]
    · simp only [beq_iff_eq.not.mpr hk]
      exact ih ((List.mem_cons.mp h).resolve_left hk)

/-- All bytes. -/
def allBytes : List Byte := (List.range 256).map (BitVec.ofNat 8)

theorem mem_allBytes (v : Byte) : v ∈ allBytes :=
  List.mem_map.mpr ⟨v.toNat, List.mem_range.mpr v.isLt, BitVec.ofNat_toNat 8 v ▸ BitVec.setWidth_eq v⟩

/-- Every choice of the four functions, each leaving H, I and C unchanged, is a value of the parameter (45_mb8861_extension.md
R310). -/
theorem extFlags_expresses_every_record (n o x : Byte → Byte → BitVec 3) (t : Byte → Byte → Byte → BitVec 3) :
    ∃ e : ExtFlags, ∀ (imm m : Byte) (f : Flags),
      nimFlags e m f = f.withNzv (n m f.pack) ∧ oimFlags e m f = f.withNzv (o m f.pack) ∧
      ximFlags e m f = f.withNzv (x m f.pack) ∧ tmmFlags e imm m f = f.withNzv (t imm m f.pack) := by
  let pairs := allBytes ×ˢ allBytes
  let triples := allBytes ×ˢ pairs
  have hp : ∀ a b : Byte, (a, b) ∈ pairs := fun a b => List.mem_product.mpr ⟨mem_allBytes a, mem_allBytes b⟩
  have ht : ∀ a b c : Byte, (a, b, c) ∈ triples := fun a b c => List.mem_product.mpr ⟨mem_allBytes a, hp b c⟩
  refine ⟨⟨pairs.map (fun k => (k, n k.1 k.2)), pairs.map (fun k => (k, o k.1 k.2)), pairs.map (fun k => (k, x k.1 k.2)),
    triples.map (fun k => (k, t k.1 k.2.1 k.2.2))⟩, fun imm m f => ?_⟩
  unfold nimFlags oimFlags ximFlags tmmFlags
  simp only [lookup_map_of_mem _ _ _ (hp m f.pack), lookup_map_of_mem _ _ _ (ht imm m f.pack), Flags.fromEntry, and_self]

end Sys2Proof.Machine
end

