-- ==== Sys2Proof/Laws/Memory.lean ====
section
/-! SUPPORT. Reads after writes, and the canonical form of memory. -/

namespace Sys2Proof.Machine

theorem memGet_append_cell_same (m : List Host.Cell) (a : Nat) (v : Byte) (h : memGet m a = unwritten) :
    memGet (memCell a v ++ m) a = v := by
  unfold memCell
  split
  · simp_all
  · simp [memGet]

theorem memGet_append_cell_other (m : List Host.Cell) (a b : Nat) (v : Byte) (h : a ≠ b) :
    memGet (memCell a v ++ m) b = memGet m b := by
  unfold memCell
  split
  · simp
  · simp [memGet, h]

theorem memGet_of_wfFrom_lt (m : List Host.Cell) (lo a : Nat) (hw : memWfFrom lo m = true) (h : a < lo) :
    memGet m a = unwritten := by
  induction m generalizing lo with
  | nil => rfl
  | cons c m ih =>
    simp only [memWfFrom, Bool.and_eq_true, decide_eq_true_eq] at hw
    have : c.1 ≠ a := by omega
    simp [memGet, this, ih (c.1 + 1) hw.2 (by omega)]

theorem memWfFrom_mono (m : List Host.Cell) (lo lo' : Nat) (h : lo' ≤ lo) (hw : memWfFrom lo m = true) :
    memWfFrom lo' m = true := by
  cases m with
  | nil => rfl
  | cons c m =>
    simp only [memWfFrom, Bool.and_eq_true, decide_eq_true_eq] at hw ⊢
    exact ⟨⟨⟨by omega, hw.1.1.2⟩, hw.1.2⟩, hw.2⟩

/-- A read of the address just written gives the byte written. -/
theorem memGet_memSet_same_from (m : List Host.Cell) (lo a : Nat) (v : Byte) (hw : memWfFrom lo m = true) :
    memGet (memSet m a v) a = v := by
  induction m generalizing lo with
  | nil => simpa [memSet] using memGet_append_cell_same [] a v rfl
  | cons c m ih =>
    simp only [memSet]
    have hw' := hw
    simp only [memWfFrom, Bool.and_eq_true, decide_eq_true_eq] at hw
    split
    · next h =>
      have hg : memWfFrom c.1 (c :: m) = true := by
        simp only [memWfFrom, Bool.and_eq_true, decide_eq_true_eq]
        exact ⟨⟨⟨Nat.le_refl _, hw.1.1.2⟩, hw.1.2⟩, hw.2⟩
      exact memGet_append_cell_same _ a v (memGet_of_wfFrom_lt _ c.1 a hg h)
    · split
      · next h =>
        exact memGet_append_cell_same _ a v (memGet_of_wfFrom_lt _ (c.1 + 1) a hw.2 (by omega))
      · next h h' =>
        simpa [memGet, Ne.symm h'] using ih (c.1 + 1) hw.2

/-- A read of another address than the one written gives what it gave. -/
theorem memGet_memSet_other (m : List Host.Cell) (a b : Nat) (v : Byte) (h : a ≠ b) :
    memGet (memSet m a v) b = memGet m b := by
  induction m with
  | nil => simpa [memSet] using memGet_append_cell_other [] a b v h
  | cons c m ih =>
    simp only [memSet]
    split
    · exact memGet_append_cell_other _ a b v h
    · split
      · next h' => simp [memGet_append_cell_other _ a b v h, memGet, ← h', h]
      · simp [memGet, ih]

theorem memWfFrom_append_cell (m : List Host.Cell) (lo a : Nat) (v : Byte) (ha : a < 65536) (hlo : lo ≤ a)
    (hw : memWfFrom (a + 1) m = true) : memWfFrom lo (memCell a v ++ m) = true := by
  unfold memCell
  split
  · simpa using memWfFrom_mono m (a + 1) lo (by omega) hw
  · next h => simp [memWfFrom, ha, hlo, hw, h]

theorem memWfFrom_memSet (m : List Host.Cell) (lo a : Nat) (v : Byte) (ha : a < 65536) (hlo : lo ≤ a)
    (hw : memWfFrom lo m = true) : memWfFrom lo (memSet m a v) = true := by
  induction m generalizing lo with
  | nil => simpa [memSet] using memWfFrom_append_cell [] lo a v ha hlo rfl
  | cons c m ih =>
    simp only [memSet]
    simp only [memWfFrom, Bool.and_eq_true, decide_eq_true_eq] at hw
    split
    · next h =>
      refine memWfFrom_append_cell _ lo a v ha hlo ?_
      simp only [memWfFrom, Bool.and_eq_true, decide_eq_true_eq]
      exact ⟨⟨⟨by omega, hw.1.1.2⟩, hw.1.2⟩, hw.2⟩
    · split
      · next h => exact memWfFrom_append_cell _ lo a v ha hlo (by rw [h]; exact hw.2)
      · next h h' =>
        simp only [memWfFrom, Bool.and_eq_true, decide_eq_true_eq]
        exact ⟨hw.1, ih (c.1 + 1) (by omega) hw.2⟩

/-- A write keeps the canonical form. -/
theorem memSet_wf (m : List Host.Cell) (a : Nat) (v : Byte) (ha : a < 65536) (hw : Memory.wf m = true) :
    Memory.wf (memSet m a v) = true :=
  memWfFrom_memSet m 0 a v ha (Nat.zero_le _) hw

theorem memGet_memSet_same (m : List Host.Cell) (a : Nat) (v : Byte) (hw : Memory.wf m = true) :
    memGet (memSet m a v) a = v :=
  memGet_memSet_same_from m 0 a v hw

/-- A cell listed after a write was listed before, or is the cell written. -/
theorem mem_of_mem_memSet (m : List Host.Cell) (a : Nat) (v : Byte) (c : Host.Cell) (h : c ∈ memSet m a v) :
    c ∈ m ∨ c = (a, v) := by
  induction m with
  | nil =>
    simp only [memSet, memCell] at h
    split at h <;> simp_all
  | cons d m ih =>
    simp only [memSet] at h
    split at h
    · simp only [memCell] at h
      split at h <;> simp_all
      tauto
    · split at h
      · simp only [memCell] at h
        split at h <;> simp_all
        tauto
      · simp only [List.mem_cons] at h ⊢
        rcases h with h | h
        · exact .inl (.inl h)
        · rcases ih h with h | h
          · exact .inl (.inr h)
          · exact .inr h

end Sys2Proof.Machine
end

