-- ==== Sys2Proof/Laws/PerInstr.lean ====
section
/-! SUPPORT. Per instruction: the opcode byte alone selects the length (30_encoding.md R100). -/

namespace Sys2Proof.Laws

/-- An opcode byte without a row is itself an instruction, whatever bytes follow (30_encoding.md R108, R112). -/
theorem decodeOp_unimplemented (ext : Bool) (op : Byte) (h : (Instr.unimpl op).wellFormed ext = true) (b1 b2 : Byte) :
    decodeOp ext op b1 b2 = .unimpl op := by
  simp only [Instr.wellFormed, Bool.or_eq_true, Bool.and_eq_true, List.contains_iff_mem, unimplementedBytes,
    extensionBytes, List.mem_append, List.mem_cons, List.not_mem_nil, or_false] at h
  rcases h with h | ⟨he, h⟩
  · rcases h with ((h | h) | h) | h <;> (repeat' rcases h with h | h) <;> cases ext <;> rfl
  · cases ext
    · (repeat' rcases h with h | h) <;> rfl
    · simp at he

namespace LengthFromOpcode

/-- The length that the decoder takes from the opcode byte is the instruction's (R100). -/
def Statement (i : Instr) : Prop :=
  ∀ ext : Bool, i.wellFormed ext = true → opcodeLength ext i.opcode = i.length

theorem ldaa (o : Src8) : Statement (.ldaa o) := by
  intro ext _
  cases o
  · show opcodeLength ext 0x86 = 2; cases ext <;> rfl
  · show opcodeLength ext 0x96 = 2; cases ext <;> rfl
  · show opcodeLength ext 0xA6 = 2; cases ext <;> rfl
  · show opcodeLength ext 0xB6 = 3; cases ext <;> rfl

theorem ldab (o : Src8) : Statement (.ldab o) := by
  intro ext _
  cases o
  · show opcodeLength ext 0xC6 = 2; cases ext <;> rfl
  · show opcodeLength ext 0xD6 = 2; cases ext <;> rfl
  · show opcodeLength ext 0xE6 = 2; cases ext <;> rfl
  · show opcodeLength ext 0xF6 = 3; cases ext <;> rfl

theorem staa (d : Dst) : Statement (.staa d) := by
  intro ext _
  cases d
  · show opcodeLength ext 0x97 = 2; cases ext <;> rfl
  · show opcodeLength ext 0xA7 = 2; cases ext <;> rfl
  · show opcodeLength ext 0xB7 = 3; cases ext <;> rfl

theorem stab (d : Dst) : Statement (.stab d) := by
  intro ext _
  cases d
  · show opcodeLength ext 0xD7 = 2; cases ext <;> rfl
  · show opcodeLength ext 0xE7 = 2; cases ext <;> rfl
  · show opcodeLength ext 0xF7 = 3; cases ext <;> rfl

theorem ldx (o : Src16) : Statement (.ldx o) := by
  intro ext _
  cases o
  · show opcodeLength ext 0xCE = 3; cases ext <;> rfl
  · show opcodeLength ext 0xDE = 2; cases ext <;> rfl
  · show opcodeLength ext 0xEE = 2; cases ext <;> rfl
  · show opcodeLength ext 0xFE = 3; cases ext <;> rfl

theorem lds (o : Src16) : Statement (.lds o) := by
  intro ext _
  cases o
  · show opcodeLength ext 0x8E = 3; cases ext <;> rfl
  · show opcodeLength ext 0x9E = 2; cases ext <;> rfl
  · show opcodeLength ext 0xAE = 2; cases ext <;> rfl
  · show opcodeLength ext 0xBE = 3; cases ext <;> rfl

theorem stx (d : Dst) : Statement (.stx d) := by
  intro ext _
  cases d
  · show opcodeLength ext 0xDF = 2; cases ext <;> rfl
  · show opcodeLength ext 0xEF = 2; cases ext <;> rfl
  · show opcodeLength ext 0xFF = 3; cases ext <;> rfl

theorem sts (d : Dst) : Statement (.sts d) := by
  intro ext _
  cases d
  · show opcodeLength ext 0x9F = 2; cases ext <;> rfl
  · show opcodeLength ext 0xAF = 2; cases ext <;> rfl
  · show opcodeLength ext 0xBF = 3; cases ext <;> rfl

theorem tab : Statement .tab := by
  intro ext _
  show opcodeLength ext 0x16 = 1; cases ext <;> rfl

theorem tba : Statement .tba := by
  intro ext _
  show opcodeLength ext 0x17 = 1; cases ext <;> rfl

theorem tsx : Statement .tsx := by
  intro ext _
  show opcodeLength ext 0x30 = 1; cases ext <;> rfl

theorem txs : Statement .txs := by
  intro ext _
  show opcodeLength ext 0x35 = 1; cases ext <;> rfl

theorem psha : Statement .psha := by
  intro ext _
  show opcodeLength ext 0x36 = 1; cases ext <;> rfl

theorem pshb : Statement .pshb := by
  intro ext _
  show opcodeLength ext 0x37 = 1; cases ext <;> rfl

theorem pula : Statement .pula := by
  intro ext _
  show opcodeLength ext 0x32 = 1; cases ext <;> rfl

theorem pulb : Statement .pulb := by
  intro ext _
  show opcodeLength ext 0x33 = 1; cases ext <;> rfl

theorem clra : Statement .clra := by
  intro ext _
  show opcodeLength ext 0x4F = 1; cases ext <;> rfl

theorem clrb : Statement .clrb := by
  intro ext _
  show opcodeLength ext 0x5F = 1; cases ext <;> rfl

theorem clr (m : Loc) : Statement (.clr m) := by
  intro ext _
  cases m
  · show opcodeLength ext 0x6F = 2; cases ext <;> rfl
  · show opcodeLength ext 0x7F = 3; cases ext <;> rfl

theorem adda (o : Src8) : Statement (.adda o) := by
  intro ext _
  cases o
  · show opcodeLength ext 0x8B = 2; cases ext <;> rfl
  · show opcodeLength ext 0x9B = 2; cases ext <;> rfl
  · show opcodeLength ext 0xAB = 2; cases ext <;> rfl
  · show opcodeLength ext 0xBB = 3; cases ext <;> rfl

theorem addb (o : Src8) : Statement (.addb o) := by
  intro ext _
  cases o
  · show opcodeLength ext 0xCB = 2; cases ext <;> rfl
  · show opcodeLength ext 0xDB = 2; cases ext <;> rfl
  · show opcodeLength ext 0xEB = 2; cases ext <;> rfl
  · show opcodeLength ext 0xFB = 3; cases ext <;> rfl

theorem adca (o : Src8) : Statement (.adca o) := by
  intro ext _
  cases o
  · show opcodeLength ext 0x89 = 2; cases ext <;> rfl
  · show opcodeLength ext 0x99 = 2; cases ext <;> rfl
  · show opcodeLength ext 0xA9 = 2; cases ext <;> rfl
  · show opcodeLength ext 0xB9 = 3; cases ext <;> rfl

theorem adcb (o : Src8) : Statement (.adcb o) := by
  intro ext _
  cases o
  · show opcodeLength ext 0xC9 = 2; cases ext <;> rfl
  · show opcodeLength ext 0xD9 = 2; cases ext <;> rfl
  · show opcodeLength ext 0xE9 = 2; cases ext <;> rfl
  · show opcodeLength ext 0xF9 = 3; cases ext <;> rfl

theorem aba : Statement .aba := by
  intro ext _
  show opcodeLength ext 0x1B = 1; cases ext <;> rfl

theorem suba (o : Src8) : Statement (.suba o) := by
  intro ext _
  cases o
  · show opcodeLength ext 0x80 = 2; cases ext <;> rfl
  · show opcodeLength ext 0x90 = 2; cases ext <;> rfl
  · show opcodeLength ext 0xA0 = 2; cases ext <;> rfl
  · show opcodeLength ext 0xB0 = 3; cases ext <;> rfl

theorem subb (o : Src8) : Statement (.subb o) := by
  intro ext _
  cases o
  · show opcodeLength ext 0xC0 = 2; cases ext <;> rfl
  · show opcodeLength ext 0xD0 = 2; cases ext <;> rfl
  · show opcodeLength ext 0xE0 = 2; cases ext <;> rfl
  · show opcodeLength ext 0xF0 = 3; cases ext <;> rfl

theorem sbca (o : Src8) : Statement (.sbca o) := by
  intro ext _
  cases o
  · show opcodeLength ext 0x82 = 2; cases ext <;> rfl
  · show opcodeLength ext 0x92 = 2; cases ext <;> rfl
  · show opcodeLength ext 0xA2 = 2; cases ext <;> rfl
  · show opcodeLength ext 0xB2 = 3; cases ext <;> rfl

theorem sbcb (o : Src8) : Statement (.sbcb o) := by
  intro ext _
  cases o
  · show opcodeLength ext 0xC2 = 2; cases ext <;> rfl
  · show opcodeLength ext 0xD2 = 2; cases ext <;> rfl
  · show opcodeLength ext 0xE2 = 2; cases ext <;> rfl
  · show opcodeLength ext 0xF2 = 3; cases ext <;> rfl

theorem sba : Statement .sba := by
  intro ext _
  show opcodeLength ext 0x10 = 1; cases ext <;> rfl

theorem cmpa (o : Src8) : Statement (.cmpa o) := by
  intro ext _
  cases o
  · show opcodeLength ext 0x81 = 2; cases ext <;> rfl
  · show opcodeLength ext 0x91 = 2; cases ext <;> rfl
  · show opcodeLength ext 0xA1 = 2; cases ext <;> rfl
  · show opcodeLength ext 0xB1 = 3; cases ext <;> rfl

theorem cmpb (o : Src8) : Statement (.cmpb o) := by
  intro ext _
  cases o
  · show opcodeLength ext 0xC1 = 2; cases ext <;> rfl
  · show opcodeLength ext 0xD1 = 2; cases ext <;> rfl
  · show opcodeLength ext 0xE1 = 2; cases ext <;> rfl
  · show opcodeLength ext 0xF1 = 3; cases ext <;> rfl

theorem cba : Statement .cba := by
  intro ext _
  show opcodeLength ext 0x11 = 1; cases ext <;> rfl

theorem daa : Statement .daa := by
  intro ext _
  show opcodeLength ext 0x19 = 1; cases ext <;> rfl

theorem nega : Statement .nega := by
  intro ext _
  show opcodeLength ext 0x40 = 1; cases ext <;> rfl

theorem negb : Statement .negb := by
  intro ext _
  show opcodeLength ext 0x50 = 1; cases ext <;> rfl

theorem neg (m : Loc) : Statement (.neg m) := by
  intro ext _
  cases m
  · show opcodeLength ext 0x60 = 2; cases ext <;> rfl
  · show opcodeLength ext 0x70 = 3; cases ext <;> rfl

theorem inca : Statement .inca := by
  intro ext _
  show opcodeLength ext 0x4C = 1; cases ext <;> rfl

theorem incb : Statement .incb := by
  intro ext _
  show opcodeLength ext 0x5C = 1; cases ext <;> rfl

theorem inc (m : Loc) : Statement (.inc m) := by
  intro ext _
  cases m
  · show opcodeLength ext 0x6C = 2; cases ext <;> rfl
  · show opcodeLength ext 0x7C = 3; cases ext <;> rfl

theorem deca : Statement .deca := by
  intro ext _
  show opcodeLength ext 0x4A = 1; cases ext <;> rfl

theorem decb : Statement .decb := by
  intro ext _
  show opcodeLength ext 0x5A = 1; cases ext <;> rfl

theorem dec (m : Loc) : Statement (.dec m) := by
  intro ext _
  cases m
  · show opcodeLength ext 0x6A = 2; cases ext <;> rfl
  · show opcodeLength ext 0x7A = 3; cases ext <;> rfl

theorem tsta : Statement .tsta := by
  intro ext _
  show opcodeLength ext 0x4D = 1; cases ext <;> rfl

theorem tstb : Statement .tstb := by
  intro ext _
  show opcodeLength ext 0x5D = 1; cases ext <;> rfl

theorem tst (m : Loc) : Statement (.tst m) := by
  intro ext _
  cases m
  · show opcodeLength ext 0x6D = 2; cases ext <;> rfl
  · show opcodeLength ext 0x7D = 3; cases ext <;> rfl

theorem inx : Statement .inx := by
  intro ext _
  show opcodeLength ext 0x08 = 1; cases ext <;> rfl

theorem dex : Statement .dex := by
  intro ext _
  show opcodeLength ext 0x09 = 1; cases ext <;> rfl

theorem ins : Statement .ins := by
  intro ext _
  show opcodeLength ext 0x31 = 1; cases ext <;> rfl

theorem des : Statement .des := by
  intro ext _
  show opcodeLength ext 0x34 = 1; cases ext <;> rfl

theorem cpx (o : Src16) : Statement (.cpx o) := by
  intro ext _
  cases o
  · show opcodeLength ext 0x8C = 3; cases ext <;> rfl
  · show opcodeLength ext 0x9C = 2; cases ext <;> rfl
  · show opcodeLength ext 0xAC = 2; cases ext <;> rfl
  · show opcodeLength ext 0xBC = 3; cases ext <;> rfl

theorem anda (o : Src8) : Statement (.anda o) := by
  intro ext _
  cases o
  · show opcodeLength ext 0x84 = 2; cases ext <;> rfl
  · show opcodeLength ext 0x94 = 2; cases ext <;> rfl
  · show opcodeLength ext 0xA4 = 2; cases ext <;> rfl
  · show opcodeLength ext 0xB4 = 3; cases ext <;> rfl

theorem andb (o : Src8) : Statement (.andb o) := by
  intro ext _
  cases o
  · show opcodeLength ext 0xC4 = 2; cases ext <;> rfl
  · show opcodeLength ext 0xD4 = 2; cases ext <;> rfl
  · show opcodeLength ext 0xE4 = 2; cases ext <;> rfl
  · show opcodeLength ext 0xF4 = 3; cases ext <;> rfl

theorem oraa (o : Src8) : Statement (.oraa o) := by
  intro ext _
  cases o
  · show opcodeLength ext 0x8A = 2; cases ext <;> rfl
  · show opcodeLength ext 0x9A = 2; cases ext <;> rfl
  · show opcodeLength ext 0xAA = 2; cases ext <;> rfl
  · show opcodeLength ext 0xBA = 3; cases ext <;> rfl

theorem orab (o : Src8) : Statement (.orab o) := by
  intro ext _
  cases o
  · show opcodeLength ext 0xCA = 2; cases ext <;> rfl
  · show opcodeLength ext 0xDA = 2; cases ext <;> rfl
  · show opcodeLength ext 0xEA = 2; cases ext <;> rfl
  · show opcodeLength ext 0xFA = 3; cases ext <;> rfl

theorem eora (o : Src8) : Statement (.eora o) := by
  intro ext _
  cases o
  · show opcodeLength ext 0x88 = 2; cases ext <;> rfl
  · show opcodeLength ext 0x98 = 2; cases ext <;> rfl
  · show opcodeLength ext 0xA8 = 2; cases ext <;> rfl
  · show opcodeLength ext 0xB8 = 3; cases ext <;> rfl

theorem eorb (o : Src8) : Statement (.eorb o) := by
  intro ext _
  cases o
  · show opcodeLength ext 0xC8 = 2; cases ext <;> rfl
  · show opcodeLength ext 0xD8 = 2; cases ext <;> rfl
  · show opcodeLength ext 0xE8 = 2; cases ext <;> rfl
  · show opcodeLength ext 0xF8 = 3; cases ext <;> rfl

theorem bita (o : Src8) : Statement (.bita o) := by
  intro ext _
  cases o
  · show opcodeLength ext 0x85 = 2; cases ext <;> rfl
  · show opcodeLength ext 0x95 = 2; cases ext <;> rfl
  · show opcodeLength ext 0xA5 = 2; cases ext <;> rfl
  · show opcodeLength ext 0xB5 = 3; cases ext <;> rfl

theorem bitb (o : Src8) : Statement (.bitb o) := by
  intro ext _
  cases o
  · show opcodeLength ext 0xC5 = 2; cases ext <;> rfl
  · show opcodeLength ext 0xD5 = 2; cases ext <;> rfl
  · show opcodeLength ext 0xE5 = 2; cases ext <;> rfl
  · show opcodeLength ext 0xF5 = 3; cases ext <;> rfl

theorem coma : Statement .coma := by
  intro ext _
  show opcodeLength ext 0x43 = 1; cases ext <;> rfl

theorem comb : Statement .comb := by
  intro ext _
  show opcodeLength ext 0x53 = 1; cases ext <;> rfl

theorem com (m : Loc) : Statement (.com m) := by
  intro ext _
  cases m
  · show opcodeLength ext 0x63 = 2; cases ext <;> rfl
  · show opcodeLength ext 0x73 = 3; cases ext <;> rfl

theorem asla : Statement .asla := by
  intro ext _
  show opcodeLength ext 0x48 = 1; cases ext <;> rfl

theorem aslb : Statement .aslb := by
  intro ext _
  show opcodeLength ext 0x58 = 1; cases ext <;> rfl

theorem asl (m : Loc) : Statement (.asl m) := by
  intro ext _
  cases m
  · show opcodeLength ext 0x68 = 2; cases ext <;> rfl
  · show opcodeLength ext 0x78 = 3; cases ext <;> rfl

theorem asra : Statement .asra := by
  intro ext _
  show opcodeLength ext 0x47 = 1; cases ext <;> rfl

theorem asrb : Statement .asrb := by
  intro ext _
  show opcodeLength ext 0x57 = 1; cases ext <;> rfl

theorem asr (m : Loc) : Statement (.asr m) := by
  intro ext _
  cases m
  · show opcodeLength ext 0x67 = 2; cases ext <;> rfl
  · show opcodeLength ext 0x77 = 3; cases ext <;> rfl

theorem lsra : Statement .lsra := by
  intro ext _
  show opcodeLength ext 0x44 = 1; cases ext <;> rfl

theorem lsrb : Statement .lsrb := by
  intro ext _
  show opcodeLength ext 0x54 = 1; cases ext <;> rfl

theorem lsr (m : Loc) : Statement (.lsr m) := by
  intro ext _
  cases m
  · show opcodeLength ext 0x64 = 2; cases ext <;> rfl
  · show opcodeLength ext 0x74 = 3; cases ext <;> rfl

theorem rola : Statement .rola := by
  intro ext _
  show opcodeLength ext 0x49 = 1; cases ext <;> rfl

theorem rolb : Statement .rolb := by
  intro ext _
  show opcodeLength ext 0x59 = 1; cases ext <;> rfl

theorem rol (m : Loc) : Statement (.rol m) := by
  intro ext _
  cases m
  · show opcodeLength ext 0x69 = 2; cases ext <;> rfl
  · show opcodeLength ext 0x79 = 3; cases ext <;> rfl

theorem rora : Statement .rora := by
  intro ext _
  show opcodeLength ext 0x46 = 1; cases ext <;> rfl

theorem rorb : Statement .rorb := by
  intro ext _
  show opcodeLength ext 0x56 = 1; cases ext <;> rfl

theorem ror (m : Loc) : Statement (.ror m) := by
  intro ext _
  cases m
  · show opcodeLength ext 0x66 = 2; cases ext <;> rfl
  · show opcodeLength ext 0x76 = 3; cases ext <;> rfl

theorem bra (rel : Byte) : Statement (.bra rel) := by
  intro ext _
  show opcodeLength ext 0x20 = 2; cases ext <;> rfl

theorem bhi (rel : Byte) : Statement (.bhi rel) := by
  intro ext _
  show opcodeLength ext 0x22 = 2; cases ext <;> rfl

theorem bls (rel : Byte) : Statement (.bls rel) := by
  intro ext _
  show opcodeLength ext 0x23 = 2; cases ext <;> rfl

theorem bcc (rel : Byte) : Statement (.bcc rel) := by
  intro ext _
  show opcodeLength ext 0x24 = 2; cases ext <;> rfl

theorem bcs (rel : Byte) : Statement (.bcs rel) := by
  intro ext _
  show opcodeLength ext 0x25 = 2; cases ext <;> rfl

theorem bne (rel : Byte) : Statement (.bne rel) := by
  intro ext _
  show opcodeLength ext 0x26 = 2; cases ext <;> rfl

theorem beq (rel : Byte) : Statement (.beq rel) := by
  intro ext _
  show opcodeLength ext 0x27 = 2; cases ext <;> rfl

theorem bvc (rel : Byte) : Statement (.bvc rel) := by
  intro ext _
  show opcodeLength ext 0x28 = 2; cases ext <;> rfl

theorem bvs (rel : Byte) : Statement (.bvs rel) := by
  intro ext _
  show opcodeLength ext 0x29 = 2; cases ext <;> rfl

theorem bpl (rel : Byte) : Statement (.bpl rel) := by
  intro ext _
  show opcodeLength ext 0x2A = 2; cases ext <;> rfl

theorem bmi (rel : Byte) : Statement (.bmi rel) := by
  intro ext _
  show opcodeLength ext 0x2B = 2; cases ext <;> rfl

theorem bge (rel : Byte) : Statement (.bge rel) := by
  intro ext _
  show opcodeLength ext 0x2C = 2; cases ext <;> rfl

theorem blt (rel : Byte) : Statement (.blt rel) := by
  intro ext _
  show opcodeLength ext 0x2D = 2; cases ext <;> rfl

theorem bgt (rel : Byte) : Statement (.bgt rel) := by
  intro ext _
  show opcodeLength ext 0x2E = 2; cases ext <;> rfl

theorem ble (rel : Byte) : Statement (.ble rel) := by
  intro ext _
  show opcodeLength ext 0x2F = 2; cases ext <;> rfl

theorem bsr (rel : Byte) : Statement (.bsr rel) := by
  intro ext _
  show opcodeLength ext 0x8D = 2; cases ext <;> rfl

theorem jmp (m : Loc) : Statement (.jmp m) := by
  intro ext _
  cases m
  · show opcodeLength ext 0x6E = 2; cases ext <;> rfl
  · show opcodeLength ext 0x7E = 3; cases ext <;> rfl

theorem jsr (m : Loc) : Statement (.jsr m) := by
  intro ext _
  cases m
  · show opcodeLength ext 0xAD = 2; cases ext <;> rfl
  · show opcodeLength ext 0xBD = 3; cases ext <;> rfl

theorem rts : Statement .rts := by
  intro ext _
  show opcodeLength ext 0x39 = 1; cases ext <;> rfl

theorem nop : Statement .nop := by
  intro ext _
  show opcodeLength ext 0x01 = 1; cases ext <;> rfl

theorem clc : Statement .clc := by
  intro ext _
  show opcodeLength ext 0x0C = 1; cases ext <;> rfl

theorem sec : Statement .sec := by
  intro ext _
  show opcodeLength ext 0x0D = 1; cases ext <;> rfl

theorem clv : Statement .clv := by
  intro ext _
  show opcodeLength ext 0x0A = 1; cases ext <;> rfl

theorem sev : Statement .sev := by
  intro ext _
  show opcodeLength ext 0x0B = 1; cases ext <;> rfl

theorem cli : Statement .cli := by
  intro ext _
  show opcodeLength ext 0x0E = 1; cases ext <;> rfl

theorem sei : Statement .sei := by
  intro ext _
  show opcodeLength ext 0x0F = 1; cases ext <;> rfl

theorem tap : Statement .tap := by
  intro ext _
  show opcodeLength ext 0x06 = 1; cases ext <;> rfl

theorem tpa : Statement .tpa := by
  intro ext _
  show opcodeLength ext 0x07 = 1; cases ext <;> rfl

theorem swi : Statement .swi := by
  intro ext _
  show opcodeLength ext 0x3F = 1; cases ext <;> rfl

theorem rti : Statement .rti := by
  intro ext _
  show opcodeLength ext 0x3B = 1; cases ext <;> rfl

theorem wai : Statement .wai := by
  intro ext _
  show opcodeLength ext 0x3E = 1; cases ext <;> rfl

theorem nim (imm off : Byte) : Statement (.nim imm off) := by
  intro ext h
  cases ext
  · simp [Instr.wellFormed, Instr.isExtension] at h
  · exact (rfl : opcodeLength true 0x71 = 3)

theorem oim (imm off : Byte) : Statement (.oim imm off) := by
  intro ext h
  cases ext
  · simp [Instr.wellFormed, Instr.isExtension] at h
  · exact (rfl : opcodeLength true 0x72 = 3)

theorem xim (imm off : Byte) : Statement (.xim imm off) := by
  intro ext h
  cases ext
  · simp [Instr.wellFormed, Instr.isExtension] at h
  · exact (rfl : opcodeLength true 0x75 = 3)

theorem tmm (imm off : Byte) : Statement (.tmm imm off) := by
  intro ext h
  cases ext
  · simp [Instr.wellFormed, Instr.isExtension] at h
  · exact (rfl : opcodeLength true 0x7B = 3)

theorem adx (o : AdxSrc) : Statement (.adx o) := by
  intro ext h
  cases ext
  · simp [Instr.wellFormed, Instr.isExtension] at h
  · cases o
    · exact (rfl : opcodeLength true 0xEC = 2)
    · exact (rfl : opcodeLength true 0xFC = 3)

theorem unimpl (op : Byte) : Statement (.unimpl op) := by
  intro ext h
  have hd := decodeOp_unimplemented ext op h 0 0
  simp only [Instr.opcode, opcodeLength, hd]

end LengthFromOpcode

end Sys2Proof.Laws
end

