-- ==== Sys2Proof/Laws/Reports.lean ====
section
/-! SUPPORT. What a read reports: calls of devices outside the core that read, and nothing else (20_memory.md R64). -/

namespace Sys2Proof.Machine

theorem OnlyReadsReported.of_outs_eq {s t : State} (h : t.outs = s.outs) : OnlyReadsReported s t :=
  ⟨[], by simpa using h, by simp⟩

theorem OnlyReadsReported.trans {s t u : State} (h : OnlyReadsReported s t) (h' : OnlyReadsReported t u) :
    OnlyReadsReported s u := by
  obtain ⟨os, ho, hall⟩ := h
  obtain ⟨os', ho', hall'⟩ := h'
  refine ⟨os' ++ os, by rw [ho', ho, List.append_assoc], fun o hm => ?_⟩
  rcases List.mem_append.mp hm with hm | hm
  · exact hall' o hm
  · exact hall o hm

theorem read8_reports (s : State) (a : Word) : OnlyReadsReported s (read8 s a).2 := by
  unfold read8
  split
  · exact .of_outs_eq rfl
  · next r _ =>
    split
    case h_5 id _ => exact ⟨[.externalRead id a], rfl, by simp⟩
    all_goals exact .of_outs_eq rfl

theorem read16_reports (s : State) (a : Word) : OnlyReadsReported s (read16 s a).2 :=
  (read8_reports s a).trans (read8_reports _ _)

theorem pull8_reports (s : State) : OnlyReadsReported s (pull8 s).2 :=
  (OnlyReadsReported.of_outs_eq (s := s) (t := s.setSp (s.sp + 1)) rfl).trans (read8_reports _ _)

theorem pull16_reports (s : State) : OnlyReadsReported s (pull16 s).2 :=
  (pull8_reports s).trans (pull8_reports _)

theorem fetch8_reports (s : State) : OnlyReadsReported s (fetch8 s).2 :=
  (read8_reports s s.pc).trans (.of_outs_eq rfl)

theorem pullAll_reports (s : State) : OnlyReadsReported s (pullAll s) := by
  have h : (pullAll s).outs = (pull16 (pull16 (pull8 (pull8 (pull8 s).2).2).2).2).2.outs := by
    simp only [pullAll, State.setPc_outs, State.setX_outs, State.setA_outs, State.setB_outs, State.setFlags_outs]
  have h1 := (pull8_reports s).trans (pull8_reports (pull8 s).2)
  have h2 := h1.trans (pull8_reports (pull8 (pull8 s).2).2)
  have h3 := h2.trans (pull16_reports _)
  exact (h3.trans (pull16_reports _)).trans (.of_outs_eq h)

theorem operand8_reports (s : State) (o : Src8) : OnlyReadsReported s (operand8 s o).2 := by
  cases o
  · exact .of_outs_eq rfl
  all_goals exact read8_reports _ _

theorem operand16_reports (s : State) (o : Src16) : OnlyReadsReported s (operand16 s o).2 := by
  cases o
  · exact .of_outs_eq rfl
  all_goals exact read16_reports _ _

theorem operandAdx_reports (s : State) (o : AdxSrc) : OnlyReadsReported s (operandAdx s o).2 := by
  cases o
  · exact .of_outs_eq rfl
  · exact read16_reports _ _

end Sys2Proof.Machine
end

