-- ==== Sys2Proof/Laws/Snapshot.lean ====
section
/-! SUPPORT. Placing bytes changes memory alone and keeps its canonical form. -/

namespace Sys2Proof.Machine

/-- A placed byte changes nothing but memory. -/
theorem placeByte_frame (s : State) (a : Word) (v : Byte) : placeByte s a v = s.setMem (placeByte s a v).mem := by
  unfold placeByte
  split <;> rfl

/-- Placed cells change nothing but memory. -/
theorem placeCells_frame (s : State) (cs : List (Word × Byte)) : placeCells s cs = s.setMem (placeCells s cs).mem := by
  induction cs generalizing s with
  | nil => rfl
  | cons c cs ih =>
    show placeCells (placeByte s c.1 c.2) cs = s.setMem (placeCells (placeByte s c.1 c.2) cs).mem
    rw [ih, placeByte_frame]
    rfl

/-- A placed byte keeps the canonical form. -/
theorem placeByte_wf (s : State) (a : Word) (v : Byte) (h : Memory.wf s.mem = true) :
    Memory.wf (placeByte s a v).mem = true := by
  unfold placeByte
  split
  · exact memSet_wf s.mem a.toNat v a.isLt h
  · exact h

/-- Placed cells keep the canonical form. -/
theorem placeCells_wf (s : State) (cs : List (Word × Byte)) (h : Memory.wf s.mem = true) :
    Memory.wf (placeCells s cs).mem = true := by
  induction cs generalizing s with
  | nil => exact h
  | cons c cs ih => exact ih _ (placeByte_wf s c.1 c.2 h)

/-- Placing by address lists bytes: the same frame for a run of bytes. -/
theorem placeBytes_frame (s : State) (a : Word) (vs : List Byte) :
    placeBytes s a vs = s.setMem (placeBytes s a vs).mem := by
  induction vs generalizing s a with
  | nil => rfl
  | cons v vs ih =>
    show placeBytes (placeByte s a v) (a + 1) vs = s.setMem (placeBytes (placeByte s a v) (a + 1) vs).mem
    rw [ih, placeByte_frame]
    rfl

end Sys2Proof.Machine
end

