-- ==== Sys2Proof/Laws/Step.lean ====
section
/-! SUPPORT. What a step, a turn of a call and a decision can do, said once: later proofs cite these and unfold no loop. -/

namespace Sys2Proof.Machine

/-- A step goes on with the call in progress, makes the oldest queued call, or begins the driving loop's tick. -/
theorem step_cases {s t : State} (h : step s = .next t) :
    (∃ c, s.call = some c ∧ runCall c s = .next t) ∨
    (s.call = none ∧ ∃ k rest, s.calls = k :: rest ∧ hostCall k (s.setCalls rest) = .next t) ∨
    (s.call = none ∧ s.calls = [] ∧ runCall ⟨true, s.chunk, 0⟩ s = .next t) := by
  unfold step hostTurn at h
  split at h
  · exact .inl ⟨_, ‹_›, h⟩
  · exact .inr (.inl ⟨‹_›, _, _, ‹_›, h⟩)
  · exact .inr (.inr ⟨‹_›, ‹_›, h⟩)

/-- A turn of a call makes one decision, or ends a call whose budget is used up. -/
theorem runCall_cases {c : Call} {s t : State} (h : runCall c s = .next t) :
    (c.budget ≤ c.consumed ∧ t = finishCall c s) ∨
    (c.consumed < c.budget ∧ ∃ u n, decision (c.budget - c.consumed) s = .next (u, n) ∧
      t = afterDecision { c with consumed := c.consumed + n } u) := by
  unfold runCall at h
  by_cases hlt : c.consumed < c.budget
  · rw [if_pos hlt] at h
    split at h
    · rename_i r hd
      exact .inr ⟨hlt, r.1, r.2, hd, (Host.Outcome.next.inj h).symm⟩
    · cases h
    · cases h
  · rw [if_neg hlt] at h
    exact .inl ⟨by omega, (Host.Outcome.next.inj h).symm⟩

/-- The six arms of a decision, each with the mode that selects it, the state after it and its charge. -/
theorem decision_cases {n k : Nat} {s u : State} (h : decision n s = .next (u, k)) :
    (s.mode = .servicingReset ∧ u = resetSequence s ∧ k = s.cfg.cycReset) ∨
    (s.mode = .halted ∧ u = s ∧ k = s.cfg.cycHalt) ∨
    (s.mode = .servicingNmi ∧ u = serviceNmi s ∧ k = s.cfg.cycNmi) ∨
    (s.mode = .servicingIrq ∧ u = serviceIrq s ∧ k = s.cfg.cycIrq) ∨
    (s.mode = .waitingForInterrupt ∧ u = s ∧ k = parkedCost s.cfg n) ∨
    (s.mode = .running ∧ exec (fetchInstr s).1 (fetchInstr s).2 = .next u ∧ k = instrCost s.cfg (fetchInstr s).1) := by
  unfold decision at h
  split at h
  · cases h; exact .inl ⟨‹_›, rfl, rfl⟩
  · cases h; exact .inr (.inl ⟨‹_›, rfl, rfl⟩)
  · cases h; exact .inr (.inr (.inl ⟨‹_›, rfl, rfl⟩))
  · cases h; exact .inr (.inr (.inr (.inl ⟨‹_›, rfl, rfl⟩)))
  · cases h; exact .inr (.inr (.inr (.inr (.inl ⟨‹_›, rfl, rfl⟩))))
  · unfold executeOne at h
    dsimp only at h
    split at h
    · cases h; exact .inr (.inr (.inr (.inr (.inr ⟨‹_›, ‹_›, rfl⟩))))
    · cases h
    · cases h

/-! The mode a state is in, as the guards of the six arms say it (60_exceptions.md R321). -/

theorem mode_servicingReset_iff (s : State) : s.mode = .servicingReset ↔
    s.resetPending = true := by
  unfold State.mode
  generalize s.resetPending = r, s.halt = h, s.nmiPending = n, s.irqPending = q, s.flags.i = i, s.parked = p
  revert r h n q i p
  decide

theorem mode_halted_iff (s : State) : s.mode = .halted ↔
    s.resetPending = false ∧ s.halt = true := by
  unfold State.mode
  generalize s.resetPending = r, s.halt = h, s.nmiPending = n, s.irqPending = q, s.flags.i = i, s.parked = p
  revert r h n q i p
  decide

theorem mode_servicingNmi_iff (s : State) : s.mode = .servicingNmi ↔
    s.resetPending = false ∧ s.halt = false ∧ s.nmiPending = true := by
  unfold State.mode
  generalize s.resetPending = r, s.halt = h, s.nmiPending = n, s.irqPending = q, s.flags.i = i, s.parked = p
  revert r h n q i p
  decide

theorem mode_servicingIrq_iff (s : State) : s.mode = .servicingIrq ↔
    s.resetPending = false ∧ s.halt = false ∧ s.nmiPending = false ∧ s.irqPending = true ∧ s.flags.i = false := by
  unfold State.mode
  generalize s.resetPending = r, s.halt = h, s.nmiPending = n, s.irqPending = q, s.flags.i = i, s.parked = p
  revert r h n q i p
  decide

theorem mode_waitingForInterrupt_iff (s : State) : s.mode = .waitingForInterrupt ↔
    s.resetPending = false ∧ s.halt = false ∧ s.nmiPending = false ∧ (s.irqPending = false ∨ s.flags.i = true) ∧
      s.parked = true := by
  unfold State.mode
  generalize s.resetPending = r, s.halt = h, s.nmiPending = n, s.irqPending = q, s.flags.i = i, s.parked = p
  revert r h n q i p
  decide

theorem mode_running_iff (s : State) : s.mode = .running ↔
    s.resetPending = false ∧ s.halt = false ∧ s.nmiPending = false ∧ (s.irqPending = false ∨ s.flags.i = true) ∧
      s.parked = false := by
  unfold State.mode
  generalize s.resetPending = r, s.halt = h, s.nmiPending = n, s.irqPending = q, s.flags.i = i, s.parked = p
  revert r h n q i p
  decide

end Sys2Proof.Machine
end

