-- ==== Sys2Proof/Laws/Via.lean ====
section
/-! SUPPORT. What a write of a chip register, a timer cycle and a shift can change, once. -/

namespace Sys2Proof.Machine

/-- The control of `T2_FREERUN` changes nothing else (00_scope.md R15). -/
theorem Via.selectT2_frame (control : Option ControlBit) (reg : BitVec 4) (b : Byte) (v : Via) :
    v.selectT2 control reg b = { v with t2FreeRun := (v.selectT2 control reg b).t2FreeRun } := by
  unfold Via.selectT2
  split
  · rfl
  · split <;> rfl

/-- With no control, a register write is the store alone (60_exceptions.md R355, R360). -/
@[simp] theorem Via.registerWrite_none (v : Via) (reg : BitVec 4) (b : Byte) :
    v.registerWrite none reg b = v.storeRegister reg b := rfl

/-- With any control, a register write is the store, but for `T2_FREERUN`. -/
theorem Via.registerWrite_frame (control : Option ControlBit) (v : Via) (reg : BitVec 4) (b : Byte) :
    v.registerWrite control reg b =
      { v.storeRegister reg b with t2FreeRun := (v.registerWrite control reg b).t2FreeRun } :=
  Via.selectT2_frame control reg b (v.storeRegister reg b)

/-- Storing a register leaves `T2_FREERUN` as it was. -/
@[simp] theorem Via.storeRegister_t2FreeRun (v : Via) (reg : BitVec 4) (b : Byte) :
    (v.storeRegister reg b).t2FreeRun = v.t2FreeRun := by
  unfold Via.storeRegister
  split <;> rfl

/-- `SR_MODE` as a number: bits 4 to 2 of ACR (R357). -/
theorem Via.srMode_toNat (v : Via) : v.srMode.toNat = v.acr.toNat / 4 % 8 := by
  simp [Via.srMode, Nat.shiftRight_eq_div_pow]

/-- The line is high when a flag and its enable are both set (R358). -/
theorem Via.irqLine_iff (v : Via) : v.irqLine = true ↔ v.ifr &&& v.ier ≠ 0 := bne_iff_ne

/-- Timer 1 runs a cycle: it and its flag change, and no more (R352). -/
theorem Via.t1Cycle_frame (v : Via) : v.t1Cycle.1 = { v with t1 := v.t1Cycle.1.t1, ifr := v.t1Cycle.1.ifr } := by
  simp only [Via.t1Cycle]
  split <;> rfl

/-- Timer 2 runs a cycle: it and its flag change, and no more (R352). -/
theorem Via.t2Cycle_frame (v : Via) : v.t2Cycle.1 = { v with t2 := v.t2Cycle.1.t2, ifr := v.t2Cycle.1.ifr } := by
  simp only [Via.t2Cycle]
  split <;> rfl

/-- The bit moved by a shift: the register, and for a shift out the output line and its report (R356). -/
theorem Via.srMove_frame (v : Via) :
    v.srMove = { v with sr := v.srMove.sr, cb2Out := v.srMove.cb2Out, portLog := v.srMove.portLog } := by
  unfold Via.srMove
  split <;> rfl

/-- The count of a shift and its flag, and no more (R356). -/
theorem Via.srTally_frame (v : Via) (before : Nat) :
    v.srTally before = { v with srCount := before + 1, ifr := (v.srTally before).ifr } := by
  simp only [Via.srTally]
  split <;> rfl

/-- A shift: the register, its count and flag, the output line and its report (R356). -/
theorem Via.srShift_frame (v : Via) : ∃ sr count ifr out log, v.srShift =
    { v with sr := sr, srCount := count, ifr := ifr, cb2Out := out, portLog := log } := by
  unfold Via.srShift
  split
  · exact ⟨_, _, _, _, _, rfl⟩
  · rw [Via.srTally_frame, Via.srMove_frame]
    exact ⟨_, _, _, _, _, rfl⟩

end Sys2Proof.Machine
end

