-- ==== Sys2Proof/Tests/Slice0.lean ====
section
/-! SUPPORT. Small tests: each expected value is an example of the rule named, or a vector of 95_test_vectors.md, or is worked
out by hand from the rule. Then a witness for every statement that has hypotheses. -/

namespace Sys2Proof.Tests

open Sys2Proof.Machine Sys2Proof.Spec

/-! ### Well-formedness: an ill-formed term for each check, refused -/

theorem test_unimpl_of_nop_is_ill_formed : (Instr.unimpl 0x01).wellFormed true = false := by decide
theorem test_unimpl_of_nim_is_ill_formed : (Instr.unimpl 0x71).wellFormed true = false := by decide
theorem test_unimpl_of_nim_without_extension : (Instr.unimpl 0x71).wellFormed false = true := by decide
theorem test_nim_without_extension : (Instr.nim 0x0F 0x05).wellFormed false = false := by decide
theorem test_oim_without_extension : (Instr.oim 0x0F 0x05).wellFormed false = false := by decide
theorem test_xim_without_extension : (Instr.xim 0x0F 0x05).wellFormed false = false := by decide
theorem test_tmm_without_extension : (Instr.tmm 0x0F 0x05).wellFormed false = false := by decide
theorem test_adx_without_extension : (Instr.adx (.imm 0x05)).wellFormed false = false := by decide

/-! ### Decoding: every row of the grid of 30_encoding.md R111, with operand bytes 0x12 and 0x34 -/

theorem test_decode_row_0 :
  decodeTableWord 8 0x00 = some (.unimpl 0x00) ∧
  decodeTableWord 8 0x01 = some (.nop) ∧
  decodeTableWord 8 0x02 = some (.unimpl 0x02) ∧
  decodeTableWord 8 0x03 = some (.unimpl 0x03) ∧
  decodeTableWord 8 0x04 = some (.unimpl 0x04) ∧
  decodeTableWord 8 0x05 = some (.unimpl 0x05) ∧
  decodeTableWord 8 0x06 = some (.tap) ∧
  decodeTableWord 8 0x07 = some (.tpa) ∧
  decodeTableWord 8 0x08 = some (.inx) ∧
  decodeTableWord 8 0x09 = some (.dex) ∧
  decodeTableWord 8 0x0A = some (.clv) ∧
  decodeTableWord 8 0x0B = some (.sev) ∧
  decodeTableWord 8 0x0C = some (.clc) ∧
  decodeTableWord 8 0x0D = some (.sec) ∧
  decodeTableWord 8 0x0E = some (.cli) ∧
  decodeTableWord 8 0x0F = some (.sei) := by decide

theorem test_decode_row_1 :
  decodeTableWord 8 0x10 = some (.sba) ∧
  decodeTableWord 8 0x11 = some (.cba) ∧
  decodeTableWord 8 0x12 = some (.unimpl 0x12) ∧
  decodeTableWord 8 0x13 = some (.unimpl 0x13) ∧
  decodeTableWord 8 0x14 = some (.unimpl 0x14) ∧
  decodeTableWord 8 0x15 = some (.unimpl 0x15) ∧
  decodeTableWord 8 0x16 = some (.tab) ∧
  decodeTableWord 8 0x17 = some (.tba) ∧
  decodeTableWord 8 0x18 = some (.unimpl 0x18) ∧
  decodeTableWord 8 0x19 = some (.daa) ∧
  decodeTableWord 8 0x1A = some (.unimpl 0x1A) ∧
  decodeTableWord 8 0x1B = some (.aba) ∧
  decodeTableWord 8 0x1C = some (.unimpl 0x1C) ∧
  decodeTableWord 8 0x1D = some (.unimpl 0x1D) ∧
  decodeTableWord 8 0x1E = some (.unimpl 0x1E) ∧
  decodeTableWord 8 0x1F = some (.unimpl 0x1F) := by decide

theorem test_decode_row_2 :
  decodeTableWord 16 0x1220 = some (.bra 0x12) ∧
  decodeTableWord 8 0x21 = some (.unimpl 0x21) ∧
  decodeTableWord 16 0x1222 = some (.bhi 0x12) ∧
  decodeTableWord 16 0x1223 = some (.bls 0x12) ∧
  decodeTableWord 16 0x1224 = some (.bcc 0x12) ∧
  decodeTableWord 16 0x1225 = some (.bcs 0x12) ∧
  decodeTableWord 16 0x1226 = some (.bne 0x12) ∧
  decodeTableWord 16 0x1227 = some (.beq 0x12) ∧
  decodeTableWord 16 0x1228 = some (.bvc 0x12) ∧
  decodeTableWord 16 0x1229 = some (.bvs 0x12) ∧
  decodeTableWord 16 0x122A = some (.bpl 0x12) ∧
  decodeTableWord 16 0x122B = some (.bmi 0x12) ∧
  decodeTableWord 16 0x122C = some (.bge 0x12) ∧
  decodeTableWord 16 0x122D = some (.blt 0x12) ∧
  decodeTableWord 16 0x122E = some (.bgt 0x12) ∧
  decodeTableWord 16 0x122F = some (.ble 0x12) := by decide

theorem test_decode_row_3 :
  decodeTableWord 8 0x30 = some (.tsx) ∧
  decodeTableWord 8 0x31 = some (.ins) ∧
  decodeTableWord 8 0x32 = some (.pula) ∧
  decodeTableWord 8 0x33 = some (.pulb) ∧
  decodeTableWord 8 0x34 = some (.des) ∧
  decodeTableWord 8 0x35 = some (.txs) ∧
  decodeTableWord 8 0x36 = some (.psha) ∧
  decodeTableWord 8 0x37 = some (.pshb) ∧
  decodeTableWord 8 0x38 = some (.unimpl 0x38) ∧
  decodeTableWord 8 0x39 = some (.rts) ∧
  decodeTableWord 8 0x3A = some (.unimpl 0x3A) ∧
  decodeTableWord 8 0x3B = some (.rti) ∧
  decodeTableWord 8 0x3C = some (.unimpl 0x3C) ∧
  decodeTableWord 8 0x3D = some (.unimpl 0x3D) ∧
  decodeTableWord 8 0x3E = some (.wai) ∧
  decodeTableWord 8 0x3F = some (.swi) := by decide

theorem test_decode_row_4 :
  decodeTableWord 8 0x40 = some (.nega) ∧
  decodeTableWord 8 0x41 = some (.unimpl 0x41) ∧
  decodeTableWord 8 0x42 = some (.unimpl 0x42) ∧
  decodeTableWord 8 0x43 = some (.coma) ∧
  decodeTableWord 8 0x44 = some (.lsra) ∧
  decodeTableWord 8 0x45 = some (.unimpl 0x45) ∧
  decodeTableWord 8 0x46 = some (.rora) ∧
  decodeTableWord 8 0x47 = some (.asra) ∧
  decodeTableWord 8 0x48 = some (.asla) ∧
  decodeTableWord 8 0x49 = some (.rola) ∧
  decodeTableWord 8 0x4A = some (.deca) ∧
  decodeTableWord 8 0x4B = some (.unimpl 0x4B) ∧
  decodeTableWord 8 0x4C = some (.inca) ∧
  decodeTableWord 8 0x4D = some (.tsta) ∧
  decodeTableWord 8 0x4E = some (.unimpl 0x4E) ∧
  decodeTableWord 8 0x4F = some (.clra) := by decide

theorem test_decode_row_5 :
  decodeTableWord 8 0x50 = some (.negb) ∧
  decodeTableWord 8 0x51 = some (.unimpl 0x51) ∧
  decodeTableWord 8 0x52 = some (.unimpl 0x52) ∧
  decodeTableWord 8 0x53 = some (.comb) ∧
  decodeTableWord 8 0x54 = some (.lsrb) ∧
  decodeTableWord 8 0x55 = some (.unimpl 0x55) ∧
  decodeTableWord 8 0x56 = some (.rorb) ∧
  decodeTableWord 8 0x57 = some (.asrb) ∧
  decodeTableWord 8 0x58 = some (.aslb) ∧
  decodeTableWord 8 0x59 = some (.rolb) ∧
  decodeTableWord 8 0x5A = some (.decb) ∧
  decodeTableWord 8 0x5B = some (.unimpl 0x5B) ∧
  decodeTableWord 8 0x5C = some (.incb) ∧
  decodeTableWord 8 0x5D = some (.tstb) ∧
  decodeTableWord 8 0x5E = some (.unimpl 0x5E) ∧
  decodeTableWord 8 0x5F = some (.clrb) := by decide

theorem test_decode_row_6 :
  decodeTableWord 16 0x1260 = some (.neg (.idx 0x12)) ∧
  decodeTableWord 8 0x61 = some (.unimpl 0x61) ∧
  decodeTableWord 8 0x62 = some (.unimpl 0x62) ∧
  decodeTableWord 16 0x1263 = some (.com (.idx 0x12)) ∧
  decodeTableWord 16 0x1264 = some (.lsr (.idx 0x12)) ∧
  decodeTableWord 8 0x65 = some (.unimpl 0x65) ∧
  decodeTableWord 16 0x1266 = some (.ror (.idx 0x12)) ∧
  decodeTableWord 16 0x1267 = some (.asr (.idx 0x12)) ∧
  decodeTableWord 16 0x1268 = some (.asl (.idx 0x12)) ∧
  decodeTableWord 16 0x1269 = some (.rol (.idx 0x12)) ∧
  decodeTableWord 16 0x126A = some (.dec (.idx 0x12)) ∧
  decodeTableWord 8 0x6B = some (.unimpl 0x6B) ∧
  decodeTableWord 16 0x126C = some (.inc (.idx 0x12)) ∧
  decodeTableWord 16 0x126D = some (.tst (.idx 0x12)) ∧
  decodeTableWord 16 0x126E = some (.jmp (.idx 0x12)) ∧
  decodeTableWord 16 0x126F = some (.clr (.idx 0x12)) := by decide

theorem test_decode_row_7 :
  decodeTableWord 24 0x341270 = some (.neg (.ext 0x1234)) ∧
  decodeTableWord 24 0x341271 = some (.nim 0x12 0x34) ∧
  decodeTableWord 24 0x341272 = some (.oim 0x12 0x34) ∧
  decodeTableWord 24 0x341273 = some (.com (.ext 0x1234)) ∧
  decodeTableWord 24 0x341274 = some (.lsr (.ext 0x1234)) ∧
  decodeTableWord 24 0x341275 = some (.xim 0x12 0x34) ∧
  decodeTableWord 24 0x341276 = some (.ror (.ext 0x1234)) ∧
  decodeTableWord 24 0x341277 = some (.asr (.ext 0x1234)) ∧
  decodeTableWord 24 0x341278 = some (.asl (.ext 0x1234)) ∧
  decodeTableWord 24 0x341279 = some (.rol (.ext 0x1234)) ∧
  decodeTableWord 24 0x34127A = some (.dec (.ext 0x1234)) ∧
  decodeTableWord 24 0x34127B = some (.tmm 0x12 0x34) ∧
  decodeTableWord 24 0x34127C = some (.inc (.ext 0x1234)) ∧
  decodeTableWord 24 0x34127D = some (.tst (.ext 0x1234)) ∧
  decodeTableWord 24 0x34127E = some (.jmp (.ext 0x1234)) ∧
  decodeTableWord 24 0x34127F = some (.clr (.ext 0x1234)) := by decide

theorem test_decode_row_8 :
  decodeTableWord 16 0x1280 = some (.suba (.imm 0x12)) ∧
  decodeTableWord 16 0x1281 = some (.cmpa (.imm 0x12)) ∧
  decodeTableWord 16 0x1282 = some (.sbca (.imm 0x12)) ∧
  decodeTableWord 8 0x83 = some (.unimpl 0x83) ∧
  decodeTableWord 16 0x1284 = some (.anda (.imm 0x12)) ∧
  decodeTableWord 16 0x1285 = some (.bita (.imm 0x12)) ∧
  decodeTableWord 16 0x1286 = some (.ldaa (.imm 0x12)) ∧
  decodeTableWord 8 0x87 = some (.unimpl 0x87) ∧
  decodeTableWord 16 0x1288 = some (.eora (.imm 0x12)) ∧
  decodeTableWord 16 0x1289 = some (.adca (.imm 0x12)) ∧
  decodeTableWord 16 0x128A = some (.oraa (.imm 0x12)) ∧
  decodeTableWord 16 0x128B = some (.adda (.imm 0x12)) ∧
  decodeTableWord 24 0x34128C = some (.cpx (.imm 0x1234)) ∧
  decodeTableWord 16 0x128D = some (.bsr 0x12) ∧
  decodeTableWord 24 0x34128E = some (.lds (.imm 0x1234)) ∧
  decodeTableWord 8 0x8F = some (.unimpl 0x8F) := by decide

theorem test_decode_row_9 :
  decodeTableWord 16 0x1290 = some (.suba (.dir 0x12)) ∧
  decodeTableWord 16 0x1291 = some (.cmpa (.dir 0x12)) ∧
  decodeTableWord 16 0x1292 = some (.sbca (.dir 0x12)) ∧
  decodeTableWord 8 0x93 = some (.unimpl 0x93) ∧
  decodeTableWord 16 0x1294 = some (.anda (.dir 0x12)) ∧
  decodeTableWord 16 0x1295 = some (.bita (.dir 0x12)) ∧
  decodeTableWord 16 0x1296 = some (.ldaa (.dir 0x12)) ∧
  decodeTableWord 16 0x1297 = some (.staa (.dir 0x12)) ∧
  decodeTableWord 16 0x1298 = some (.eora (.dir 0x12)) ∧
  decodeTableWord 16 0x1299 = some (.adca (.dir 0x12)) ∧
  decodeTableWord 16 0x129A = some (.oraa (.dir 0x12)) ∧
  decodeTableWord 16 0x129B = some (.adda (.dir 0x12)) ∧
  decodeTableWord 16 0x129C = some (.cpx (.dir 0x12)) ∧
  decodeTableWord 8 0x9D = some (.unimpl 0x9D) ∧
  decodeTableWord 16 0x129E = some (.lds (.dir 0x12)) ∧
  decodeTableWord 16 0x129F = some (.sts (.dir 0x12)) := by decide

theorem test_decode_row_a :
  decodeTableWord 16 0x12A0 = some (.suba (.idx 0x12)) ∧
  decodeTableWord 16 0x12A1 = some (.cmpa (.idx 0x12)) ∧
  decodeTableWord 16 0x12A2 = some (.sbca (.idx 0x12)) ∧
  decodeTableWord 8 0xA3 = some (.unimpl 0xA3) ∧
  decodeTableWord 16 0x12A4 = some (.anda (.idx 0x12)) ∧
  decodeTableWord 16 0x12A5 = some (.bita (.idx 0x12)) ∧
  decodeTableWord 16 0x12A6 = some (.ldaa (.idx 0x12)) ∧
  decodeTableWord 16 0x12A7 = some (.staa (.idx 0x12)) ∧
  decodeTableWord 16 0x12A8 = some (.eora (.idx 0x12)) ∧
  decodeTableWord 16 0x12A9 = some (.adca (.idx 0x12)) ∧
  decodeTableWord 16 0x12AA = some (.oraa (.idx 0x12)) ∧
  decodeTableWord 16 0x12AB = some (.adda (.idx 0x12)) ∧
  decodeTableWord 16 0x12AC = some (.cpx (.idx 0x12)) ∧
  decodeTableWord 16 0x12AD = some (.jsr (.idx 0x12)) ∧
  decodeTableWord 16 0x12AE = some (.lds (.idx 0x12)) ∧
  decodeTableWord 16 0x12AF = some (.sts (.idx 0x12)) := by decide

theorem test_decode_row_b :
  decodeTableWord 24 0x3412B0 = some (.suba (.ext 0x1234)) ∧
  decodeTableWord 24 0x3412B1 = some (.cmpa (.ext 0x1234)) ∧
  decodeTableWord 24 0x3412B2 = some (.sbca (.ext 0x1234)) ∧
  decodeTableWord 8 0xB3 = some (.unimpl 0xB3) ∧
  decodeTableWord 24 0x3412B4 = some (.anda (.ext 0x1234)) ∧
  decodeTableWord 24 0x3412B5 = some (.bita (.ext 0x1234)) ∧
  decodeTableWord 24 0x3412B6 = some (.ldaa (.ext 0x1234)) ∧
  decodeTableWord 24 0x3412B7 = some (.staa (.ext 0x1234)) ∧
  decodeTableWord 24 0x3412B8 = some (.eora (.ext 0x1234)) ∧
  decodeTableWord 24 0x3412B9 = some (.adca (.ext 0x1234)) ∧
  decodeTableWord 24 0x3412BA = some (.oraa (.ext 0x1234)) ∧
  decodeTableWord 24 0x3412BB = some (.adda (.ext 0x1234)) ∧
  decodeTableWord 24 0x3412BC = some (.cpx (.ext 0x1234)) ∧
  decodeTableWord 24 0x3412BD = some (.jsr (.ext 0x1234)) ∧
  decodeTableWord 24 0x3412BE = some (.lds (.ext 0x1234)) ∧
  decodeTableWord 24 0x3412BF = some (.sts (.ext 0x1234)) := by decide

theorem test_decode_row_c :
  decodeTableWord 16 0x12C0 = some (.subb (.imm 0x12)) ∧
  decodeTableWord 16 0x12C1 = some (.cmpb (.imm 0x12)) ∧
  decodeTableWord 16 0x12C2 = some (.sbcb (.imm 0x12)) ∧
  decodeTableWord 8 0xC3 = some (.unimpl 0xC3) ∧
  decodeTableWord 16 0x12C4 = some (.andb (.imm 0x12)) ∧
  decodeTableWord 16 0x12C5 = some (.bitb (.imm 0x12)) ∧
  decodeTableWord 16 0x12C6 = some (.ldab (.imm 0x12)) ∧
  decodeTableWord 8 0xC7 = some (.unimpl 0xC7) ∧
  decodeTableWord 16 0x12C8 = some (.eorb (.imm 0x12)) ∧
  decodeTableWord 16 0x12C9 = some (.adcb (.imm 0x12)) ∧
  decodeTableWord 16 0x12CA = some (.orab (.imm 0x12)) ∧
  decodeTableWord 16 0x12CB = some (.addb (.imm 0x12)) ∧
  decodeTableWord 8 0xCC = some (.unimpl 0xCC) ∧
  decodeTableWord 8 0xCD = some (.unimpl 0xCD) ∧
  decodeTableWord 24 0x3412CE = some (.ldx (.imm 0x1234)) ∧
  decodeTableWord 8 0xCF = some (.unimpl 0xCF) := by decide

theorem test_decode_row_d :
  decodeTableWord 16 0x12D0 = some (.subb (.dir 0x12)) ∧
  decodeTableWord 16 0x12D1 = some (.cmpb (.dir 0x12)) ∧
  decodeTableWord 16 0x12D2 = some (.sbcb (.dir 0x12)) ∧
  decodeTableWord 8 0xD3 = some (.unimpl 0xD3) ∧
  decodeTableWord 16 0x12D4 = some (.andb (.dir 0x12)) ∧
  decodeTableWord 16 0x12D5 = some (.bitb (.dir 0x12)) ∧
  decodeTableWord 16 0x12D6 = some (.ldab (.dir 0x12)) ∧
  decodeTableWord 16 0x12D7 = some (.stab (.dir 0x12)) ∧
  decodeTableWord 16 0x12D8 = some (.eorb (.dir 0x12)) ∧
  decodeTableWord 16 0x12D9 = some (.adcb (.dir 0x12)) ∧
  decodeTableWord 16 0x12DA = some (.orab (.dir 0x12)) ∧
  decodeTableWord 16 0x12DB = some (.addb (.dir 0x12)) ∧
  decodeTableWord 8 0xDC = some (.unimpl 0xDC) ∧
  decodeTableWord 8 0xDD = some (.unimpl 0xDD) ∧
  decodeTableWord 16 0x12DE = some (.ldx (.dir 0x12)) ∧
  decodeTableWord 16 0x12DF = some (.stx (.dir 0x12)) := by decide

theorem test_decode_row_e :
  decodeTableWord 16 0x12E0 = some (.subb (.idx 0x12)) ∧
  decodeTableWord 16 0x12E1 = some (.cmpb (.idx 0x12)) ∧
  decodeTableWord 16 0x12E2 = some (.sbcb (.idx 0x12)) ∧
  decodeTableWord 8 0xE3 = some (.unimpl 0xE3) ∧
  decodeTableWord 16 0x12E4 = some (.andb (.idx 0x12)) ∧
  decodeTableWord 16 0x12E5 = some (.bitb (.idx 0x12)) ∧
  decodeTableWord 16 0x12E6 = some (.ldab (.idx 0x12)) ∧
  decodeTableWord 16 0x12E7 = some (.stab (.idx 0x12)) ∧
  decodeTableWord 16 0x12E8 = some (.eorb (.idx 0x12)) ∧
  decodeTableWord 16 0x12E9 = some (.adcb (.idx 0x12)) ∧
  decodeTableWord 16 0x12EA = some (.orab (.idx 0x12)) ∧
  decodeTableWord 16 0x12EB = some (.addb (.idx 0x12)) ∧
  decodeTableWord 16 0x12EC = some (.adx (.imm 0x12)) ∧
  decodeTableWord 8 0xED = some (.unimpl 0xED) ∧
  decodeTableWord 16 0x12EE = some (.ldx (.idx 0x12)) ∧
  decodeTableWord 16 0x12EF = some (.stx (.idx 0x12)) := by decide

theorem test_decode_row_f :
  decodeTableWord 24 0x3412F0 = some (.subb (.ext 0x1234)) ∧
  decodeTableWord 24 0x3412F1 = some (.cmpb (.ext 0x1234)) ∧
  decodeTableWord 24 0x3412F2 = some (.sbcb (.ext 0x1234)) ∧
  decodeTableWord 8 0xF3 = some (.unimpl 0xF3) ∧
  decodeTableWord 24 0x3412F4 = some (.andb (.ext 0x1234)) ∧
  decodeTableWord 24 0x3412F5 = some (.bitb (.ext 0x1234)) ∧
  decodeTableWord 24 0x3412F6 = some (.ldab (.ext 0x1234)) ∧
  decodeTableWord 24 0x3412F7 = some (.stab (.ext 0x1234)) ∧
  decodeTableWord 24 0x3412F8 = some (.eorb (.ext 0x1234)) ∧
  decodeTableWord 24 0x3412F9 = some (.adcb (.ext 0x1234)) ∧
  decodeTableWord 24 0x3412FA = some (.orab (.ext 0x1234)) ∧
  decodeTableWord 24 0x3412FB = some (.addb (.ext 0x1234)) ∧
  decodeTableWord 24 0x3412FC = some (.adx (.ext 0x1234)) ∧
  decodeTableWord 8 0xFD = some (.unimpl 0xFD) ∧
  decodeTableWord 24 0x3412FE = some (.ldx (.ext 0x1234)) ∧
  decodeTableWord 24 0x3412FF = some (.stx (.ext 0x1234)) := by decide

theorem test_decode_refuses_short_input : decode true [0xB6, 0x12] = .error (.truncated 0xB6) := by decide
theorem test_decode_refuses_no_input : decode true [] = .error .noBytes := by decide

/-! ### One instruction on a small state -/

/-- 64K of read-write memory, so that every address holds a byte. -/
def flat : Params := { decidedParams with regions := [⟨0, 65536, .readWrite⟩] }

/-- A small state: the registers, the CC byte and the listed cells. -/
def cpu (a b : Byte) (x sp pc : Word) (cc : Byte) (cells : List Host.Cell) : State :=
  { State.constructed flat with
    a := a
    b := b
    x := x
    sp := sp
    pc := pc
    flags := Flags.unpack cc
    mem := cells }

/-- The next state of an instruction meets a check. -/
def gives (i : Instr) (s : State) (want : State → Bool) : Bool :=
  match exec i s with
  | .next t => want t
  | _ => false

/-- A byte of memory. -/
def at_ (t : State) (a : Nat) : Byte := memGet t.mem a

/-- R131 -/
theorem test_ldaa :
    gives (.ldaa (.imm 0x80)) (cpu 0x12 0x00 0x0000 0x01FF 0x0300 0x01 []) (fun t => t.a == 0x80 && t.flags.pack == 0xC9) = true := by decide
/-- M6 -/
theorem test_ldaa_wraps_index :
    gives (.ldaa (.idx 0x20)) (cpu 0x00 0x00 0xFFF0 0x01FF 0x0300 0x00 [(0x10, 0x66)]) (fun t => t.a == 0x66 && t.flags.pack == 0xC0) = true := by decide
/-- R132 -/
theorem test_ldab :
    gives (.ldab (.idx 0x05)) (cpu 0x00 0x07 0x0100 0x01FF 0x0300 0x02 []) (fun t => t.b == 0x00 && t.flags.pack == 0xC4) = true := by decide
/-- R133 -/
theorem test_staa :
    gives (.staa (.dir 0x10)) (cpu 0x00 0x00 0x0000 0x01FF 0x0300 0x02 [(0x10, 0xFF)]) (fun t => at_ t 0x0010 == 0x00 && t.flags.pack == 0xC4) = true := by decide
/-- R134 -/
theorem test_stab :
    gives (.stab (.ext 0xC100)) (cpu 0x00 0xFF 0x0000 0x01FF 0x0300 0x00 []) (fun t => at_ t 0xC100 == 0xFF && t.flags.pack == 0xC8) = true := by decide
/-- R135 -/
theorem test_ldx :
    gives (.ldx (.imm 0xC100)) (cpu 0x00 0x00 0x0000 0x01FF 0x0300 0x00 []) (fun t => t.x == 0xC100 && t.flags.pack == 0xC8) = true := by decide
/-- M4 -/
theorem test_ldx_wraps :
    gives (.ldx (.ext 0xFFFF)) (cpu 0x00 0x00 0x0000 0x01FF 0x0300 0x00 [(0x0, 0xCD), (0xFFFF, 0xAB)]) (fun t => t.x == 0xABCD && t.flags.pack == 0xC8) = true := by decide
/-- R136 -/
theorem test_lds :
    gives (.lds (.imm 0x01FF)) (cpu 0x00 0x00 0x0000 0x0000 0x0300 0x0E []) (fun t => t.sp == 0x01FF && t.flags.pack == 0xC0) = true := by decide
/-- R137 -/
theorem test_stx :
    gives (.stx (.dir 0x20)) (cpu 0x00 0x00 0x1234 0x01FF 0x0300 0x00 []) (fun t => at_ t 0x20 == 0x12 && at_ t 0x21 == 0x34 && t.x == 0x1234) = true := by decide
/-- R138 -/
theorem test_sts :
    gives (.sts (.ext 0x0100)) (cpu 0x00 0x00 0x0000 0x8000 0x0300 0x31 [(0x101, 0x55)]) (fun t => at_ t 0x100 == 0x80 && at_ t 0x101 == 0 && t.flags.h && t.flags.i && t.flags.c) = true := by decide
/-- R139 -/
theorem test_tab :
    gives (.tab) (cpu 0x80 0x00 0x0000 0x01FF 0x0300 0x00 []) (fun t => t.b == 0x80 && t.flags.pack == 0xC8) = true := by decide
/-- R140 -/
theorem test_tba :
    gives (.tba) (cpu 0x05 0x00 0x0000 0x01FF 0x0300 0x02 []) (fun t => t.a == 0x00 && t.flags.pack == 0xC4) = true := by decide
/-- R141 -/
theorem test_tsx :
    gives (.tsx) (cpu 0x00 0x00 0x0007 0xFFFF 0x0300 0x3F []) (fun t => t.x == 0 && t.flags.pack == 0xFF) = true := by decide
/-- R142 -/
theorem test_txs :
    gives (.txs) (cpu 0x00 0x00 0x0000 0x01FF 0x0300 0x00 []) (fun t => t.sp == 0xFFFF && t.flags.pack == 0xC0) = true := by decide
/-- R143 -/
theorem test_psha :
    gives (.psha) (cpu 0x5A 0x00 0x0000 0x01FF 0x0300 0x00 []) (fun t => at_ t 0x1FF == 0x5A && t.sp == 0x01FE) = true := by decide
/-- R144 -/
theorem test_pshb :
    gives (.pshb) (cpu 0x00 0xA5 0x0000 0x01FE 0x0300 0x00 []) (fun t => at_ t 0x1FE == 0xA5 && t.sp == 0x01FD) = true := by decide
/-- R145 -/
theorem test_pula :
    gives (.pula) (cpu 0x00 0x00 0x0000 0x01FD 0x0300 0x00 [(0x1FE, 0xA5)]) (fun t => t.a == 0xA5 && t.sp == 0x01FE && t.flags.pack == 0xC0) = true := by decide
/-- R146 -/
theorem test_pulb :
    gives (.pulb) (cpu 0x00 0x00 0x0000 0x01FE 0x0300 0x00 [(0x1FF, 0x5A)]) (fun t => t.b == 0x5A && t.sp == 0x01FF) = true := by decide
/-- R149 -/
theorem test_clra :
    gives (.clra) (cpu 0x7F 0x00 0x0000 0x01FF 0x0300 0x09 []) (fun t => t.a == 0x00 && t.flags.pack == 0xC4) = true := by decide
/-- R150 -/
theorem test_clrb :
    gives (.clrb) (cpu 0x00 0xFF 0x0000 0x01FF 0x0300 0x22 []) (fun t => t.b == 0x00 && t.flags.pack == 0xE4) = true := by decide
/-- R151 -/
theorem test_clr :
    gives (.clr (.ext 0x0040)) (cpu 0x00 0x00 0x0000 0x01FF 0x0300 0x01 [(0x40, 0x7F)]) (fun t => at_ t 0x0040 == 0x00 && t.flags.pack == 0xC4) = true := by decide
/-- R173 -/
theorem test_adda :
    gives (.adda (.imm 0x0F)) (cpu 0x3C 0x00 0x0000 0x01FF 0x0300 0x00 []) (fun t => t.a == 0x4B && t.flags.pack == 0xE0) = true := by decide
/-- R173 -/
theorem test_adda_overflow :
    gives (.adda (.imm 0x80)) (cpu 0x80 0x00 0x0000 0x01FF 0x0300 0x20 []) (fun t => t.a == 0x00 && t.flags.pack == 0xC7) = true := by decide
/-- R174 -/
theorem test_addb :
    gives (.addb (.imm 0x20)) (cpu 0x00 0xF0 0x0000 0x01FF 0x0300 0x00 []) (fun t => t.b == 0x10 && t.flags.pack == 0xC1) = true := by decide
/-- R175 -/
theorem test_adca :
    gives (.adca (.imm 0x00)) (cpu 0xFF 0x00 0x0000 0x01FF 0x0300 0x01 []) (fun t => t.a == 0x00 && t.flags.pack == 0xE5) = true := by decide
/-- R176 -/
theorem test_adcb :
    gives (.adcb (.imm 0x00)) (cpu 0x00 0x7F 0x0000 0x01FF 0x0300 0x01 []) (fun t => t.b == 0x80 && t.flags.pack == 0xEA) = true := by decide
/-- R177 -/
theorem test_aba :
    gives (.aba) (cpu 0x08 0x08 0x0000 0x01FF 0x0300 0x00 []) (fun t => t.a == 0x10 && t.flags.pack == 0xE0) = true := by decide
/-- R178 -/
theorem test_suba :
    gives (.suba (.imm 0x01)) (cpu 0x80 0x00 0x0000 0x01FF 0x0300 0x00 []) (fun t => t.a == 0x7F && t.flags.pack == 0xC2) = true := by decide
/-- R179 -/
theorem test_subb :
    gives (.subb (.imm 0x20)) (cpu 0x00 0x10 0x0000 0x01FF 0x0300 0x20 []) (fun t => t.b == 0xF0 && t.flags.pack == 0xE9) = true := by decide
/-- R180 -/
theorem test_sbca :
    gives (.sbca (.imm 0xFF)) (cpu 0x00 0x00 0x0000 0x01FF 0x0300 0x01 []) (fun t => t.a == 0x00 && t.flags.pack == 0xC5) = true := by decide
/-- R181 -/
theorem test_sbcb :
    gives (.sbcb (.imm 0x00)) (cpu 0x00 0x00 0x0000 0x01FF 0x0300 0x01 []) (fun t => t.b == 0xFF && t.flags.pack == 0xC9) = true := by decide
/-- R182 -/
theorem test_sba :
    gives (.sba) (cpu 0x05 0x05 0x0000 0x01FF 0x0300 0x01 []) (fun t => t.a == 0x00 && t.flags.pack == 0xC4) = true := by decide
/-- vectors 2.2 -/
theorem test_cmpa :
    gives (.cmpa (.imm 0x7F)) (cpu 0x80 0x00 0x0000 0x01FF 0x0300 0x00 []) (fun t => t.a == 0x80 && t.flags.pack == 0xC2) = true := by decide
/-- R184 -/
theorem test_cmpb :
    gives (.cmpb (.imm 0x23)) (cpu 0x00 0x20 0x0000 0x01FF 0x0300 0x00 []) (fun t => t.b == 0x20 && t.flags.pack == 0xC9) = true := by decide
/-- R185 -/
theorem test_cba :
    gives (.cba) (cpu 0x80 0x01 0x0000 0x01FF 0x0300 0x00 []) (fun t => t.a == 0x80 && t.flags.pack == 0xC2) = true := by decide
/-- R186 -/
theorem test_daa :
    gives (.daa) (cpu 0x9A 0x00 0x0000 0x01FF 0x0300 0x00 []) (fun t => t.a == 0 && t.flags.z && t.flags.c && !t.flags.n) = true := by decide
/-- R186 -/
theorem test_daa_keeps_carry :
    gives (.daa) (cpu 0x00 0x00 0x0000 0x01FF 0x0300 0x01 []) (fun t => t.a == 0x60 && t.flags.c && !t.flags.h) = true := by decide
/-- R188 -/
theorem test_nega :
    gives (.nega) (cpu 0x80 0x00 0x0000 0x01FF 0x0300 0x00 []) (fun t => t.a == 0x80 && t.flags.pack == 0xCB) = true := by decide
/-- R189 -/
theorem test_negb :
    gives (.negb) (cpu 0x00 0xFF 0x0000 0x01FF 0x0300 0x00 []) (fun t => t.b == 0x01 && t.flags.pack == 0xC1) = true := by decide
/-- R190 -/
theorem test_neg :
    gives (.neg (.ext 0x0040)) (cpu 0x00 0x00 0x0000 0x01FF 0x0300 0x00 [(0x40, 0x10)]) (fun t => at_ t 0x0040 == 0xF0 && t.flags.pack == 0xC9) = true := by decide
/-- R192 -/
theorem test_inca :
    gives (.inca) (cpu 0xFF 0x00 0x0000 0x01FF 0x0300 0x01 []) (fun t => t.a == 0x00 && t.flags.pack == 0xC5) = true := by decide
/-- INC rule R191 -/
theorem test_incb :
    gives (.incb) (cpu 0x00 0x7F 0x0000 0x01FF 0x0300 0x00 []) (fun t => t.b == 0x80 && t.flags.pack == 0xCA) = true := by decide
/-- R194 -/
theorem test_inc :
    gives (.inc (.idx 0x02)) (cpu 0x00 0x00 0x0100 0x01FF 0x0300 0x00 [(0x102, 0x7F)]) (fun t => at_ t 0x0102 == 0x80 && t.flags.pack == 0xCA) = true := by decide
/-- R196 -/
theorem test_deca :
    gives (.deca) (cpu 0x80 0x00 0x0000 0x01FF 0x0300 0x01 []) (fun t => t.a == 0x7F && t.flags.pack == 0xC3) = true := by decide
/-- R197 -/
theorem test_decb :
    gives (.decb) (cpu 0x00 0x00 0x0000 0x01FF 0x0300 0x00 []) (fun t => t.b == 0xFF && t.flags.pack == 0xC8) = true := by decide
/-- R198 -/
theorem test_dec :
    gives (.dec (.ext 0x0040)) (cpu 0x00 0x00 0x0000 0x01FF 0x0300 0x00 [(0x40, 0x80)]) (fun t => at_ t 0x0040 == 0x7F && t.flags.pack == 0xC2) = true := by decide
/-- R199 -/
theorem test_tsta :
    gives (.tsta) (cpu 0x80 0x00 0x0000 0x01FF 0x0300 0x03 []) (fun t => t.a == 0x80 && t.flags.pack == 0xC8) = true := by decide
/-- R200 -/
theorem test_tstb :
    gives (.tstb) (cpu 0x00 0x00 0x0000 0x01FF 0x0300 0x01 []) (fun t => t.b == 0x00 && t.flags.pack == 0xC4) = true := by decide
/-- R201 -/
theorem test_tst :
    gives (.tst (.ext 0x0040)) (cpu 0x00 0x00 0x0000 0x01FF 0x0300 0x03 [(0x40, 0x7F)]) (fun t => at_ t 0x0040 == 0x7F && t.flags.pack == 0xC0) = true := by decide
/-- R202 -/
theorem test_inx :
    gives (.inx) (cpu 0x00 0x00 0xFFFF 0x01FF 0x0300 0x0B []) (fun t => t.x == 0 && t.flags.pack == 0xCF) = true := by decide
/-- R203 -/
theorem test_dex :
    gives (.dex) (cpu 0x00 0x00 0x0000 0x01FF 0x0300 0x04 []) (fun t => t.x == 0xFFFF && t.flags.pack == 0xC0) = true := by decide
/-- R204 -/
theorem test_ins :
    gives (.ins) (cpu 0x00 0x00 0x0000 0x01FD 0x0300 0x04 []) (fun t => t.sp == 0x01FE && t.flags.pack == 0xC4) = true := by decide
/-- R205 -/
theorem test_des :
    gives (.des) (cpu 0x00 0x00 0x0000 0x0000 0x0300 0x00 []) (fun t => t.sp == 0xFFFF && t.flags.pack == 0xC0) = true := by decide
/-- R206 -/
theorem test_cpx :
    gives (.cpx (.imm 0x0001)) (cpu 0x00 0x00 0x8000 0x01FF 0x0300 0x03 []) (fun t => t.x == 0x8000 && t.flags.pack == 0xC9) = true := by decide
/-- R211 -/
theorem test_anda :
    gives (.anda (.imm 0x0F)) (cpu 0xF0 0x00 0x0000 0x01FF 0x0300 0x03 []) (fun t => t.a == 0x00 && t.flags.pack == 0xC5) = true := by decide
/-- R212 -/
theorem test_andb :
    gives (.andb (.imm 0x80)) (cpu 0x00 0xFF 0x0000 0x01FF 0x0300 0x00 []) (fun t => t.b == 0x80 && t.flags.pack == 0xC8) = true := by decide
/-- R213 -/
theorem test_oraa :
    gives (.oraa (.imm 0x80)) (cpu 0x01 0x00 0x0000 0x01FF 0x0300 0x00 []) (fun t => t.a == 0x81 && t.flags.pack == 0xC8) = true := by decide
/-- R214 -/
theorem test_orab :
    gives (.orab (.imm 0x00)) (cpu 0x00 0x00 0x0000 0x01FF 0x0300 0x00 []) (fun t => t.b == 0x00 && t.flags.pack == 0xC4) = true := by decide
/-- R215 -/
theorem test_eora :
    gives (.eora (.imm 0xFF)) (cpu 0xAA 0x00 0x0000 0x01FF 0x0300 0x00 []) (fun t => t.a == 0x55 && t.flags.pack == 0xC0) = true := by decide
/-- R216 -/
theorem test_eorb :
    gives (.eorb (.imm 0x5A)) (cpu 0x00 0x5A 0x0000 0x01FF 0x0300 0x00 []) (fun t => t.b == 0x00 && t.flags.pack == 0xC4) = true := by decide
/-- R217 -/
theorem test_bita :
    gives (.bita (.imm 0x10)) (cpu 0x0F 0x00 0x0000 0x01FF 0x0300 0x00 []) (fun t => t.a == 0x0F && t.flags.pack == 0xC4) = true := by decide
/-- R218 -/
theorem test_bitb :
    gives (.bitb (.imm 0x80)) (cpu 0x00 0x80 0x0000 0x01FF 0x0300 0x00 []) (fun t => t.b == 0x80 && t.flags.pack == 0xC8) = true := by decide
/-- R219 -/
theorem test_coma :
    gives (.coma) (cpu 0x0F 0x00 0x0000 0x01FF 0x0300 0x02 []) (fun t => t.a == 0xF0 && t.flags.pack == 0xC9) = true := by decide
/-- R220 -/
theorem test_comb :
    gives (.comb) (cpu 0x00 0x00 0x0000 0x01FF 0x0300 0x00 []) (fun t => t.b == 0xFF && t.flags.pack == 0xC9) = true := by decide
/-- R221 -/
theorem test_com :
    gives (.com (.ext 0x0040)) (cpu 0x00 0x00 0x0000 0x01FF 0x0300 0x00 [(0x40, 0x55)]) (fun t => at_ t 0x0040 == 0xAA && t.flags.pack == 0xC9) = true := by decide
/-- R223 -/
theorem test_asla :
    gives (.asla) (cpu 0xC0 0x00 0x0000 0x01FF 0x0300 0x00 []) (fun t => t.a == 0x80 && t.flags.pack == 0xC9) = true := by decide
/-- R224 -/
theorem test_aslb :
    gives (.aslb) (cpu 0x00 0xFF 0x0000 0x01FF 0x0300 0x00 []) (fun t => t.b == 0xFE && t.flags.pack == 0xC9) = true := by decide
/-- R225 -/
theorem test_asl :
    gives (.asl (.ext 0x0040)) (cpu 0x00 0x00 0x0000 0x01FF 0x0300 0x00 [(0x40, 0x81)]) (fun t => at_ t 0x0040 == 0x02 && t.flags.pack == 0xC3) = true := by decide
/-- R226 -/
theorem test_asra :
    gives (.asra) (cpu 0x82 0x00 0x0000 0x01FF 0x0300 0x00 []) (fun t => t.a == 0xC1 && t.flags.pack == 0xCA) = true := by decide
/-- R227 -/
theorem test_asrb :
    gives (.asrb) (cpu 0x00 0x7F 0x0000 0x01FF 0x0300 0x00 []) (fun t => t.b == 0x3F && t.flags.pack == 0xC3) = true := by decide
/-- R228 -/
theorem test_asr :
    gives (.asr (.idx 0x00)) (cpu 0x00 0x00 0x0040 0x01FF 0x0300 0x00 [(0x40, 0x80)]) (fun t => at_ t 0x0040 == 0xC0 && t.flags.pack == 0xCA) = true := by decide
/-- R229 -/
theorem test_lsra :
    gives (.lsra) (cpu 0x01 0x00 0x0000 0x01FF 0x0300 0x00 []) (fun t => t.a == 0x00 && t.flags.pack == 0xC7) = true := by decide
/-- R230 -/
theorem test_lsrb :
    gives (.lsrb) (cpu 0x00 0xFF 0x0000 0x01FF 0x0300 0x00 []) (fun t => t.b == 0x7F && t.flags.pack == 0xC3) = true := by decide
/-- R231 -/
theorem test_lsr :
    gives (.lsr (.ext 0x0040)) (cpu 0x00 0x00 0x0000 0x01FF 0x0300 0x00 [(0x40, 0x02)]) (fun t => at_ t 0x0040 == 0x01 && t.flags.pack == 0xC0) = true := by decide
/-- R232 -/
theorem test_rola :
    gives (.rola) (cpu 0x40 0x00 0x0000 0x01FF 0x0300 0x01 []) (fun t => t.a == 0x81 && t.flags.pack == 0xCA) = true := by decide
/-- R233 -/
theorem test_rolb :
    gives (.rolb) (cpu 0x00 0x80 0x0000 0x01FF 0x0300 0x01 []) (fun t => t.b == 0x01 && t.flags.pack == 0xC3) = true := by decide
/-- R234 -/
theorem test_rol :
    gives (.rol (.ext 0x0040)) (cpu 0x00 0x00 0x0000 0x01FF 0x0300 0x01 []) (fun t => at_ t 0x0040 == 0x01 && t.flags.pack == 0xC0) = true := by decide
/-- R235 -/
theorem test_rora :
    gives (.rora) (cpu 0x02 0x00 0x0000 0x01FF 0x0300 0x01 []) (fun t => t.a == 0x81 && t.flags.pack == 0xCA) = true := by decide
/-- R236 -/
theorem test_rorb :
    gives (.rorb) (cpu 0x00 0x01 0x0000 0x01FF 0x0300 0x01 []) (fun t => t.b == 0x80 && t.flags.pack == 0xC9) = true := by decide
/-- R237 -/
theorem test_ror :
    gives (.ror (.ext 0x0040)) (cpu 0x00 0x00 0x0000 0x01FF 0x0300 0x00 [(0x40, 0xFF)]) (fun t => at_ t 0x0040 == 0x7F && t.flags.pack == 0xC3) = true := by decide
/-- R241: PC past the two bytes -/
theorem test_bra :
    gives (.bra 0xFE) (cpu 0x00 0x00 0x0000 0x01FF 0x0302 0x00 []) (fun t => t.pc == 0x0300 && t.flags.pack == 0xC0) = true := by decide
/-- R242 -/
theorem test_bhi :
    gives (.bhi 0x10) (cpu 0x00 0x00 0x0000 0x01FF 0x0302 0x00 []) (fun t => t.pc == 0x0312 && t.flags.pack == 0xC0) = true := by decide
/-- R242 -/
theorem test_bhi_equal :
    gives (.bhi 0x10) (cpu 0x00 0x00 0x0000 0x01FF 0x0302 0x04 []) (fun t => t.pc == 0x0302 && t.flags.pack == 0xC4) = true := by decide
/-- R243 -/
theorem test_bls :
    gives (.bls 0x10) (cpu 0x00 0x00 0x0000 0x01FF 0x0302 0x04 []) (fun t => t.pc == 0x0312 && t.flags.pack == 0xC4) = true := by decide
/-- R243 -/
theorem test_bls_higher :
    gives (.bls 0x10) (cpu 0x00 0x00 0x0000 0x01FF 0x0302 0x00 []) (fun t => t.pc == 0x0302 && t.flags.pack == 0xC0) = true := by decide
/-- R244 -/
theorem test_bcc :
    gives (.bcc 0x10) (cpu 0x00 0x00 0x0000 0x01FF 0x0102 0x00 []) (fun t => t.pc == 0x0112 && t.flags.pack == 0xC0) = true := by decide
/-- R245 -/
theorem test_bcs :
    gives (.bcs 0x10) (cpu 0x00 0x00 0x0000 0x01FF 0x0102 0x00 []) (fun t => t.pc == 0x0102 && t.flags.pack == 0xC0) = true := by decide
/-- R245 -/
theorem test_bcs_taken :
    gives (.bcs 0x10) (cpu 0x00 0x00 0x0000 0x01FF 0x0102 0x01 []) (fun t => t.pc == 0x0112 && t.flags.pack == 0xC1) = true := by decide
/-- R246 -/
theorem test_bne :
    gives (.bne 0xF8) (cpu 0x00 0x00 0x0000 0x01FF 0x030A 0x00 []) (fun t => t.pc == 0x0302 && t.flags.pack == 0xC0) = true := by decide
/-- R247 -/
theorem test_beq :
    gives (.beq 0x7F) (cpu 0x00 0x00 0x0000 0x01FF 0x0202 0x04 []) (fun t => t.pc == 0x0281 && t.flags.pack == 0xC4) = true := by decide
/-- R248 -/
theorem test_bvc :
    gives (.bvc 0x10) (cpu 0x00 0x00 0x0000 0x01FF 0x0302 0x02 []) (fun t => t.pc == 0x0302 && t.flags.pack == 0xC2) = true := by decide
/-- R249 -/
theorem test_bvs :
    gives (.bvs 0x80) (cpu 0x00 0x00 0x0000 0x01FF 0x0002 0x02 []) (fun t => t.pc == 0xFF82 && t.flags.pack == 0xC2) = true := by decide
/-- R250 -/
theorem test_bpl :
    gives (.bpl 0x10) (cpu 0x00 0x00 0x0000 0x01FF 0x0302 0x00 []) (fun t => t.pc == 0x0312 && t.flags.pack == 0xC0) = true := by decide
/-- R251 -/
theorem test_bmi :
    gives (.bmi 0x10) (cpu 0x00 0x00 0x0000 0x01FF 0x0302 0x00 []) (fun t => t.pc == 0x0302 && t.flags.pack == 0xC0) = true := by decide
/-- R252 -/
theorem test_bge :
    gives (.bge 0x10) (cpu 0x00 0x00 0x0000 0x01FF 0x0302 0x02 []) (fun t => t.pc == 0x0302 && t.flags.pack == 0xC2) = true := by decide
/-- R253 -/
theorem test_blt :
    gives (.blt 0x10) (cpu 0x00 0x00 0x0000 0x01FF 0x0302 0x02 []) (fun t => t.pc == 0x0312 && t.flags.pack == 0xC2) = true := by decide
/-- R254 -/
theorem test_bgt :
    gives (.bgt 0x10) (cpu 0x00 0x00 0x0000 0x01FF 0x0302 0x04 []) (fun t => t.pc == 0x0302 && t.flags.pack == 0xC4) = true := by decide
/-- R255 -/
theorem test_ble :
    gives (.ble 0x10) (cpu 0x00 0x00 0x0000 0x01FF 0x0302 0x04 []) (fun t => t.pc == 0x0312 && t.flags.pack == 0xC4) = true := by decide
/-- R254 -/
theorem test_bgt_taken :
    gives (.bgt 0x10) (cpu 0x00 0x00 0x0000 0x01FF 0x0302 0x0A []) (fun t => t.pc == 0x0312 && t.flags.pack == 0xCA) = true := by decide
/-- R256 -/
theorem test_bsr :
    gives (.bsr 0x10) (cpu 0x00 0x00 0x0000 0x01FF 0x0302 0x00 []) (fun t => at_ t 0x1FF == 0x02 && at_ t 0x1FE == 0x03 && t.sp == 0x01FD && t.pc == 0x0312) = true := by decide
/-- R257 -/
theorem test_jmp :
    gives (.jmp (.idx 0x04)) (cpu 0x00 0x00 0x0300 0x01FF 0x0300 0x00 []) (fun t => t.pc == 0x0304) = true := by decide
/-- R258 -/
theorem test_jsr :
    gives (.jsr (.ext 0x0400)) (cpu 0x00 0x00 0x0000 0x01FF 0x0303 0x00 []) (fun t => at_ t 0x1FF == 0x03 && at_ t 0x1FE == 0x03 && t.sp == 0x01FD && t.pc == 0x0400) = true := by decide
/-- R259 -/
theorem test_rts :
    gives (.rts) (cpu 0x00 0x00 0x0000 0x01FD 0x0300 0x00 [(0x1FE, 0x03), (0x1FF, 0x05)]) (fun t => t.pc == 0x0305 && t.sp == 0x01FF) = true := by decide
/-- R260 -/
theorem test_nop :
    gives (.nop) (cpu 0x01 0x02 0x0003 0x01FF 0x0300 0x3F []) (fun t => t == (cpu 0x01 0x02 0x0003 0x01FF 0x0300 0x3F [])) = true := by decide +kernel
/-- R108 -/
theorem test_unimpl :
    gives (.unimpl 0x87) (cpu 0x01 0x02 0x0003 0x01FF 0x0300 0x3F []) (fun t => t == (cpu 0x01 0x02 0x0003 0x01FF 0x0300 0x3F [])) = true := by decide +kernel
/-- R280 -/
theorem test_clc :
    gives (.clc) (cpu 0x00 0x00 0x0000 0x01FF 0x0300 0x3F []) (fun t => t.flags.pack == 0xFE) = true := by decide
/-- R281 -/
theorem test_sec :
    gives (.sec) (cpu 0x00 0x00 0x0000 0x01FF 0x0300 0x00 []) (fun t => t.flags.pack == 0xC1) = true := by decide
/-- R282 -/
theorem test_clv :
    gives (.clv) (cpu 0x00 0x00 0x0000 0x01FF 0x0300 0x3F []) (fun t => t.flags.pack == 0xFD) = true := by decide
/-- R283 -/
theorem test_sev :
    gives (.sev) (cpu 0x00 0x00 0x0000 0x01FF 0x0300 0x00 []) (fun t => t.flags.pack == 0xC2) = true := by decide
/-- R284 -/
theorem test_cli :
    gives (.cli) (cpu 0x00 0x00 0x0000 0x01FF 0x0300 0x3F []) (fun t => t.flags.pack == 0xEF) = true := by decide
/-- R285 -/
theorem test_sei :
    gives (.sei) (cpu 0x00 0x00 0x0000 0x01FF 0x0300 0x00 []) (fun t => t.flags.pack == 0xD0) = true := by decide
/-- R286 -/
theorem test_tap :
    gives (.tap) (cpu 0xC5 0x00 0x0000 0x01FF 0x0300 0x3A []) (fun t => t.a == 0xC5 && t.flags.pack == 0xC5) = true := by decide
/-- R287 -/
theorem test_tpa :
    gives (.tpa) (cpu 0x00 0x00 0x0000 0x01FF 0x0300 0x14 []) (fun t => t.a == 0xD4 && t.flags.pack == 0xD4) = true := by decide
/-- R295 -/
theorem test_swi :
    gives (.swi) (cpu 0x11 0x22 0x3344 0x01FF 0x0301 0x00 [(0xFFFA, 0x04)]) (fun t => t.mem == [(0x1F9, 0xC0), (0x1FA, 0x22), (0x1FB, 0x11), (0x1FC, 0x33), (0x1FD, 0x44), (0x1FE, 0x03), (0x1FF, 0x01), (0xFFFA, 0x04)] && t.sp == 0x01F8 && t.pc == 0x0400 && t.flags.pack == 0xD0) = true := by decide
/-- R296 -/
theorem test_rti :
    gives (.rti) (cpu 0x00 0x00 0x0000 0x01F8 0x0300 0x3F [(0x1F9, 0xC0), (0x1FA, 0x22), (0x1FB, 0x11), (0x1FC, 0x33), (0x1FD, 0x44), (0x1FE, 0x03), (0x1FF, 0x01)]) (fun t => t == (cpu 0x11 0x22 0x3344 0x01FF 0x0301 0x00 [(0x1F9, 0xC0), (0x1FA, 0x22), (0x1FB, 0x11), (0x1FC, 0x33), (0x1FD, 0x44), (0x1FE, 0x03), (0x1FF, 0x01)])) = true := by decide +kernel
/-- R298 -/
theorem test_wai :
    gives (.wai) (cpu 0x11 0x22 0x3344 0x01FF 0x0301 0x00 []) (fun t => t.mem == [(0x1F9, 0xC0), (0x1FA, 0x22), (0x1FB, 0x11), (0x1FC, 0x33), (0x1FD, 0x44), (0x1FE, 0x03), (0x1FF, 0x01)] && t.sp == 0x01F8 && t.parked && t.pc == 0x0301 && t.flags.pack == 0xC0) = true := by decide
/-- R311 -/
theorem test_nim :
    gives (.nim 0x0F 0x05) (cpu 0x00 0x00 0x0100 0x01FF 0x0300 0x06 [(0x105, 0xF3)]) (fun t => at_ t 0x0105 == 0x03 && t.flags.pack == 0xC8) = true := by decide
/-- R312 -/
theorem test_oim :
    gives (.oim 0x80 0x00) (cpu 0x00 0x00 0x0100 0x01FF 0x0300 0x02 [(0x100, 0x01)]) (fun t => at_ t 0x0100 == 0x81 && t.flags.pack == 0xC8) = true := by decide
/-- R313 -/
theorem test_xim :
    gives (.xim 0xFF 0x00) (cpu 0x00 0x00 0x0100 0x01FF 0x0300 0x0A [(0x100, 0xFF)]) (fun t => at_ t 0x0100 == 0x00 && t.flags.pack == 0xC6) = true := by decide
/-- R314 -/
theorem test_tmm :
    gives (.tmm 0x01 0x00) (cpu 0x00 0x00 0x0100 0x01FF 0x0300 0x0C [(0x100, 0xFF)]) (fun t => at_ t 0x0100 == 0xFF && t.flags.pack == 0xC2) = true := by decide
/-- R314 -/
theorem test_tmm_mixed :
    gives (.tmm 0x01 0x00) (cpu 0x00 0x00 0x0100 0x01FF 0x0300 0x00 [(0x100, 0x02)]) (fun t => at_ t 0x0100 == 0x02 && t.flags.pack == 0xC8) = true := by decide
/-- R315 -/
theorem test_adx :
    gives (.adx (.imm 0x01)) (cpu 0x00 0x00 0xFFFF 0x01FF 0x0300 0x20 []) (fun t => t.x == 0 && t.flags.pack == 0xE5) = true := by decide
/-- R316 -/
theorem test_adx_extended :
    gives (.adx (.ext 0x0040)) (cpu 0x00 0x00 0x7FFF 0x01FF 0x0300 0x00 [(0x41, 0x01)]) (fun t => t.x == 0x8000 && t.flags.pack == 0xCA) = true := by decide

/-! ### Steps: the decision machine (95_test_vectors.md 2.11) -/

/-- The vectors of section 2.11: IRQ 0400, SWI 0500, NMI 0600, RESET 0300. -/
def vectors : List Host.Cell := [(0xFFF8, 0x04), (0xFFFA, 0x05), (0xFFFC, 0x06), (0xFFFE, 0x03)]

/-- The next state of a step meets a check. -/
def steps (s : State) (want : State → Bool) : Bool :=
  match step s with
  | .next t => want t
  | _ => false

/-- E1: the reset sequence; 12 cycles. -/
theorem test_reset_decision :
    steps { cpu 0 0 0 0x1FF 0x1234 0 vectors with resetPending := true, nmiPending := true, irqPending := true, halt := true }
      (fun t => t.pc == 0x0300 && t.flags.i && t.mode == .running && t.mem == vectors && t.cycles == 12) = true := by decide +kernel

/-- E1: `reset()` changes `reset_pending` alone. -/
theorem test_reset_call :
    steps { cpu 1 2 3 4 5 6 [] with calls := [.signal .reset] }
      (fun t => t == { cpu 1 2 3 4 5 6 [] with resetPending := true }) = true := by decide +kernel

/-- E2: a negative budget. -/
theorem test_negative_budget : (match step { cpu 0 0 0 0 0 0 [] with calls := [.step (-1)] } with
    | .refused .misuse => true
    | _ => false) = true := by decide

/-- E2: two NOPs under `step(3)`: after the first one cycle is left. -/
theorem test_budget_left : steps { cpu 0 0 0 0 0x300 0 [(0x300, 0x01), (0x301, 0x01)] with calls := [.step 3] }
    (fun t => t.pc == 0x0301 && t.call == some ⟨false, 3, 2⟩) = true := by decide

/-- E2: the second NOP overshoots; `step` returns 4. -/
theorem test_budget_overshoot :
    steps { cpu 0 0 0 0 0x301 0 [(0x300, 0x01), (0x301, 0x01)] with call := some ⟨false, 3, 2⟩ }
      (fun t => t.pc == 0x0302 && t.call.isNone && t.outs == [.consumed 4]) = true := by decide

/-- E3: NMI with I = 1. -/
theorem test_nmi_decision :
    steps { cpu 0x11 0x22 0x3344 0x1FF 0x300 0xD1 vectors with nmiPending := true }
      (fun t => t.pc == 0x0600 && t.sp == 0x01F8 && t.flags.pack == 0xD1 && !t.nmiPending && t.mem == [(0x1F9, 0xD1),
        (0x1FA, 0x22), (0x1FB, 0x11), (0x1FC, 0x33), (0x1FD, 0x44), (0x1FE, 0x03)] ++ vectors) = true := by decide

/-- E4: a masked IRQ waits. -/
theorem test_irq_masked :
    steps { cpu 0 0 0 0x1FF 0x300 0x10 ([(0x300, 0x01)] ++ vectors) with irqPending := true }
      (fun t => t.pc == 0x0301 && t.irqPending && t.sp == 0x01FF) = true := by decide

/-- E4: an unmasked IRQ is served. -/
theorem test_irq_decision :
    steps { cpu 0 0 0 0x1FF 0x302 0 vectors with irqPending := true }
      (fun t => t.pc == 0x0400 && t.flags.i && !t.irqPending && t.sp == 0x01F8 && at_ t 0x1F9 == 0xC0 &&
        at_ t 0x1FF == 0x02) = true := by decide +kernel

/-- E6: halt charges one cycle and fetches nothing. -/
theorem test_halt_decision :
    steps { cpu 0 0 0 0x1FF 0x300 0 [(0x300, 0x01)] with halt := true, nmiPending := true }
      (fun t => t.pc == 0x0300 && t.nmiPending && t.cycles == 1) = true := by decide

/-- E7: a wake by IRQ pushes nothing. -/
theorem test_irq_from_parked :
    steps { cpu 0x77 0 0 0x1F8 0x301 0 vectors with parked := true, irqPending := true }
      (fun t => t.pc == 0x0400 && t.sp == 0x01F8 && !t.parked && t.mem == vectors) = true := by decide

/-- E9: a parked decision charges the whole budget left. -/
theorem test_parked_decision :
    steps { cpu 0 0 0 0x1F8 0x302 0 [] with parked := true, call := some ⟨false, 20, 11⟩ }
      (fun t => t.parked && t.outs == [.consumed 20]) = true := by decide

/-- M5: an instruction across the top of the address space. -/
theorem test_fetch_wraps : steps (cpu 0 0 0 0 0xFFFF 0 [(0x0, 0x42), (0xFFFF, 0x86)])
    (fun t => t.a == 0x42 && t.pc == 0x0001) = true := by decide

/-- P4, tick 13: the underflow raises the line at the end of the tick, and the latch with it. -/
theorem test_line_routed :
    steps { cpu 0 0 0 0x1F8 0x31A 0 [] with
        parked := true, chunk := 10
        via := { viaInitial with t1 := ⟨5, 0x63, true⟩, acr := 0x40, ier := 0x40 } }
      (fun t => t.irqPending && t.irqLinePrev && t.via.t1.counter == 0x5F && t.cycles == 10) = true := by decide +kernel

/-- R344, R325: the ticks go round in construction order, and a device outside the core signals IRQ in its own, before routing. -/
theorem test_outside_device_ticked :
    steps { cpu 0 0 0 0x1FF 0x300 0 [(0x300, 0x01)] with
        cfg := { flat with peripherals := ⟨[7], [9]⟩ }, reactions := [[], [.irq, .ctlEvent .ca1]] }
      (fun t => t.irqPending && t.via.ifr == 0x02 && t.reactions == [] &&
        t.outs == [.externalTick 9 2, .externalTick 7 2]) = true := by decide

/-- R64: a read of a device outside the core is a call with its address. -/
theorem test_outside_device_read :
    (read8 (State.constructed { flat with regions := [⟨0, 65536, .deviceBacked (some (.external 3))⟩] }) 0x1234).2.outs =
      [.externalRead 3 0x1234] := by decide

/-- R15: another PARKED_CHARGE, and a register bit that controls T2_FREERUN: PCR bit 2. -/
theorem test_other_parameters :
    steps { cpu 0 0 0 0 0 0 [] with
        cfg := { flat with parkedCharge := .fixed 3 }, parked := true, call := some ⟨false, 20, 11⟩ }
      (fun t => t.call == some ⟨false, 20, 14⟩) = true ∧
    (viaInitial.registerWrite (some ⟨0xC, 2⟩) 0xC 0x04).t2FreeRun = true ∧
    (viaInitial.registerWrite (some ⟨0xC, 2⟩) 0xB 0x04).t2FreeRun = false := by decide

/-- R310: an EXT_FLAGS that differs from the default at one result of NIM. -/
theorem test_other_ext_flags :
    gives (.nim 0x0F 0x05) { cpu 0x00 0x00 0x0100 0x01FF 0x0300 0x06 [(0x105, 0xF3)] with
        cfg := { flat with extFlags := ⟨[((0x03, 0xC6), 0b011)], [], [], []⟩ } }
      (fun t => at_ t 0x0105 == 0x03 && t.flags.pack == 0xC6) = true := by decide

/-- An instruction placed by `withFetchWord` is the first to run after reset. -/
theorem test_first_instruction : steps (State.reset.withFetchWord 16 0x8086)
    (fun t => t.a == 0x80 && t.pc == 0x0002 && t.flags.n && t.cycles == 2) = true := by decide

/-- A snapshot imported on another machine. -/
theorem test_snapshot_import :
    steps { cpu 0 0 0 0 0 0 [(0x7, 0x77)] with
        calls := [.importState (snapshotOf { cpu 1 2 3 4 5 0x15 [(0x0, 0x42)] with parked := true, cycles := 9 })] }
      (fun t => t == { cpu 1 2 3 4 5 0x15 [(0x0, 0x42)] with parked := true, cycles := 9 }) = true := by decide +kernel

/-! ### The chip (95_test_vectors.md 2.12) -/

/-- V1: a one-shot timer fires in the sixth cycle. -/
theorem test_timer_one_shot :
    let v := (viaInitial.registerWrite none 4 0x05).registerWrite none 5 0x00
    (v.tick 5).t1 = ⟨0, 5, true⟩ ∧ (v.tick 6).t1 = ⟨0xFFFF, 5, false⟩ ∧ (v.tick 6).ifr = 0x40 ∧
      (v.tick 30).t1 = ⟨0xFFFF, 5, false⟩ := by decide +kernel

/-- V2: a free-run timer, then the closed form. -/
theorem test_timer_free_run :
    let v := { viaInitial with acr := 0x40, t1 := ⟨9, 9, true⟩ }
    (v.tick 10).t1 = ⟨9, 9, true⟩ ∧ (v.tick 10).ifr = 0x40 ∧ (v.tick 25).t1.counter = 4 ∧ t1Underflows 25 v = 2 := by
  decide +kernel

/-- V3: reads clear only their own flag; IER sets and clears by bit 7. -/
theorem test_flag_and_enable :
    let v := { viaInitial with ifr := 0x40 }
    (v.registerRead true 4).2.ifr = 0 ∧ (v.registerRead true 8).2.ifr = 0x40 ∧
      ((v.registerWrite none 0xE 0xC0).registerRead true 0xD).1 = 0xC0 ∧
      ((v.registerWrite none 0xE 0xC0).registerRead true 0xE).1 = 0xC0 ∧
      (((v.registerWrite none 0xE 0xC0).registerWrite none 0xE 0x40).registerRead true 0xE).1 = 0x80 := by decide

/-- V4: pulse counting. -/
theorem test_timer_pulses :
    let v := { viaInitial with acr := 0x20, t2 := ⟨1, 1, true⟩ }
    (v.tick 20).t2.counter = 1 ∧ v.t2Pulse.t2.counter = 0 ∧ v.t2Pulse.t2Pulse.t2.counter = 0xFFFF ∧
      v.t2Pulse.t2Pulse.ifr = 0x20 := by decide +kernel

/-- V5 and V5b: the shift register out and in. -/
theorem test_shift_register :
    let v := (viaInitial.registerWrite none 0xB 0x18).registerWrite none 0xA 0xA5
    (v.tick 8).sr = 0xA5 ∧ (v.tick 8).ifr = 0x04 ∧ (v.tick 1).cb2Out = true ∧ (v.tick 2).cb2Out = false ∧
      ({ viaInitial with acr := 0x08, cb2In := true, srCount := 0 }.tick 3).sr = 0x07 := by decide

/-- V5c: a shift for each underflow of timer 2. -/
theorem test_shift_on_timer :
    let v := { viaInitial with acr := 0x14, sr := 0x80, srCount := 0, t2 := ⟨0, 0, true⟩ }
    (v.tick 1).sr = 0x01 ∧ (v.tick 1).ifr = 0x20 ∧ (v.tick 20).srCount = 1 := by decide +kernel

/-- V6: port A. -/
theorem test_ports :
    let v := ({ viaInitial with ina := 0x3C }.registerWrite none 3 0x0F).registerWrite none 1 0xA5
    (v.registerRead true 1).1 = 0x35 ∧ (v.registerRead true 0xF).1 = 0x35 ∧
      v.portLog = [.pins .a 0xA5 0x0F, .pins .a 0x00 0x0F] := by decide

/-- V7: a control line and its enable. -/
theorem test_control_line :
    let v := viaInitial.ctlEvent .ca1
    v.ifr = 0x02 ∧ v.irqLine = false ∧ (v.registerWrite none 0xE 0x82).irqLine = true := by decide

/-- V8: STX to the timer pair, on the JR-100 map. -/
theorem test_stx_timer : gives (.stx (.ext 0xC804)) { State.reset with x := 0x1234 }
    (fun t => t.via.t1 == ⟨0x3412, 0x3412, true⟩) = true := by decide

/-- M1, M2: unmapped and read-only addresses, on the JR-100 map. -/
theorem test_degraded_accesses :
    (read8 State.reset 0x4000 = (0x00, State.reset)) ∧ write8 State.reset 0x4000 0x11 = State.reset ∧
      write8 State.reset 0xE000 0x11 = State.reset := by decide +kernel

/-! ### Witnesses: for every statement with hypotheses, concrete values that meet them, each clause at a boundary -/

theorem flat_writable (s : State) (h : s.cfg = flat) (a : Word) : Writable s a := by
  refine ⟨⟨0, 65536, .readWrite⟩, ?_, rfl⟩
  have ha := a.isLt
  simp [ownerOf, h, flat, Region.covers, ha]

/-- One region of each access mode, side by side, with a gap above. -/
def patchwork : State :=
  State.constructed { decidedParams with
    regions := [⟨0x0000, 0x100, .readWrite⟩, ⟨0x0100, 0x100, .readOnly⟩, ⟨0x0200, 0x20, .deviceBacked (some .chip)⟩,
      ⟨0x0220, 0x10, .deviceBacked (some (.external 3))⟩] }

theorem witness_DecodeOfEncode : (Instr.unimpl 0x71).wellFormed false = true ∧ (Instr.nim 0xFF 0x00).wellFormed true = true ∧
    (Instr.ldx (.ext 0xFFFF)).wellFormed false = true := by decide

theorem witness_EncodeOfDecode : decode true [0x71, 0x0F, 0x05, 0x01] = .ok (.nim 0x0F 0x05, [0x01]) ∧
    decode false [0x71, 0x0F] = .ok (.unimpl 0x71, [0x0F]) := by decide

theorem witness_ByteAccessByRegion : Memory.wf patchwork.mem = true ∧
    ownerOf patchwork.cfg.regions 0x00FF = some ⟨0x0000, 0x100, .readWrite⟩ ∧
    ownerOf patchwork.cfg.regions 0x0100 = some ⟨0x0100, 0x100, .readOnly⟩ ∧
    ownerOf patchwork.cfg.regions 0x0200 = some ⟨0x0200, 0x20, .deviceBacked (some .chip)⟩ ∧
    ownerOf patchwork.cfg.regions 0x022F = some ⟨0x0220, 0x10, .deviceBacked (some (.external 3))⟩ ∧
    ownerOf patchwork.cfg.regions 0x0230 = none := by decide

theorem witness_WordsAreBigEndian : Memory.wf (cpu 0 0 0 0 0 0 []).mem = true ∧ Writable (cpu 0 0 0 0 0 0 []) 0xFFFF ∧
    Writable (cpu 0 0 0 0 0 0 []) (0xFFFF + 1) :=
  ⟨by decide, flat_writable _ rfl _, flat_writable _ rfl _⟩

theorem witness_OwnerIsTheCoveringRegion : regionsValid jr100Regions = true ∧ regionsValid [] = true := by decide

theorem witness_RegisterFrame : Memory.wf (cpu 0 0 0 3 0 0 []).mem = true ∧
    ∀ a ∈ frameAddresses (cpu 0 0 0 3 0 0 []), Writable (cpu 0 0 0 3 0 0 []) a :=
  ⟨by decide, fun a _ => flat_writable _ rfl a⟩

theorem witness_DecimalAdjust : isBcd (cpu 0x99 0 0 0 0 0x01 []).a ∧ isBcd (operand8 (cpu 0x99 0 0 0 0 0x01 []) (.imm 0x99)).1 ∧
    ∃ t u, exec (.adca (.imm 0x99)) (cpu 0x99 0 0 0 0 0x01 []) = .next t ∧ exec .daa t = .next u :=
  ⟨by unfold isBcd; decide, by unfold isBcd; decide, _, _, rfl, rfl⟩

/-- The flags that take and that do not take each branch; BRA has no condition to fail. -/
theorem witness_Branches :
    let s := cpu 0 0 0 0 0 0x00 []
    let u := cpu 0 0 0 0 0 0x0F []
    let w := cpu 0 0 0 0 0 0x08 []
    (s.flags.c = false ∧ s.flags.z = false ∧ s.flags.v = false ∧ s.flags.n = false ∧ s.flags.n = s.flags.v) ∧
    (u.flags.c = true ∧ u.flags.z = true ∧ u.flags.v = true ∧ u.flags.n = true) ∧ w.flags.n ≠ w.flags.v := by decide

theorem witness_BranchesAfterCompare : ∃ t, exec (.cmpa (.imm 0x80)) (cpu 0x7F 0 0 0 0 0 []) = .next t := ⟨_, rfl⟩

theorem witness_ReturnUndoesCall : Memory.wf (cpu 0 0 0 0 0x300 0 []).mem = true ∧
    Writable (cpu 0 0 0 0 0x300 0 []) (cpu 0 0 0 0 0x300 0 []).sp ∧
    Writable (cpu 0 0 0 0 0x300 0 []) ((cpu 0 0 0 0 0x300 0 []).sp - 1) ∧
    (∃ t, exec (.jsr (.ext 0x400)) (cpu 0 0 0 0 0x300 0 []) = .next t) ∧
    ∃ t, exec (.bsr 0x80) (cpu 0 0 0 0 0x300 0 []) = .next t :=
  ⟨by decide, flat_writable _ rfl _, flat_writable _ rfl _, ⟨_, rfl⟩, ⟨_, rfl⟩⟩

/-- For the four frames of all instructions: an instruction that writes each kind and one that does not. -/
theorem witness_InstructionFrames : (∃ t, exec .psha (cpu 1 0 0 0 0 0 []) = .next t) ∧ (0x0001 : Word) ∉ storedTo (cpu 1 0 0 0 0 0 []) .psha ∧
    storedTo (cpu 1 0 0 0 0 0 []) .rti = [] ∧ writesA .psha = false ∧ writesB .psha = false ∧ writesX .psha = false ∧
    writesSp .nop = false ∧ writesPc .psha = false ∧ writesH .psha = false ∧ writesI .psha = false ∧
    writesC .psha = false ∧ writesNoFlag .psha = true ∧ Instr.psha ≠ .wai := by
  refine ⟨⟨_, rfl⟩, ?_⟩
  decide

theorem witness_NotWritable : ¬ Writable State.reset 0xE000 := by
  rintro ⟨r, h, hm⟩
  have : ownerOf State.reset.cfg.regions 0xE000 = some ⟨0xE000, 0x2000, .readOnly⟩ := by decide
  rw [this] at h
  cases h
  cases hm

theorem witness_StepRunsTheDecodedInstruction :
    let s := cpu 0 0 0 0 0xFFFF 0 [(0x0, 0x42), (0xFFFF, 0x86)]
    Running s ∧ decode s.cfg.extMb8861 (bytesAtPc s) = .ok (.ldaa (.imm 0x42), [0x00]) ∧
      (∀ k < 2, backed s.cfg (s.pc + BitVec.ofNat 16 k) = true) ∧ (Instr.ldaa (.imm 0x42)).length = 2 ∧
      s.idle ∧ s.chunk = 1 ∧ 0 < instrCost s.cfg (.ldaa (.imm 0x42)) := by
  unfold Running State.idle
  decide

/-- A fetch from an unmapped address; one from the chip, where the read of the second byte clears a flag; and one of three bytes
that wraps. -/
theorem witness_FetchFromAnywhere :
    let s := { State.reset with pc := 0x9000 }
    let v := { viaInitial with t1 := ⟨0, 0x8600, false⟩, t2 := ⟨0x0012, 0, false⟩, ifr := 0x20 }
    let u := { State.reset with pc := 0xC807, via := v }
    let t := { State.reset with pc := 0xC809, via := { v with ifr := 0 } }
    let w := cpu 0 0 0 0 0xFFFE 0 [(0x0, 0x34), (0xFFFE, 0x7E), (0xFFFF, 0x12)]
    (Running s ∧ Fetched s (.unimpl 0x00) { s with pc := 0x9001 }) ∧ (Running u ∧ Fetched u (.ldaa (.imm 0x12)) t) ∧
    (Running w ∧ Fetched w (.jmp (.ext 0x1234)) { w with pc := 0x0001 }) :=
  ⟨⟨⟨rfl, rfl, rfl, .inl rfl, rfl⟩, .inl ⟨rfl, rfl⟩⟩, ⟨⟨rfl, rfl, rfl, .inl rfl, rfl⟩, .inr (.inl ⟨rfl, rfl⟩)⟩,
    ⟨⟨rfl, rfl, rfl, .inl rfl, rfl⟩, .inr (.inr ⟨rfl, rfl⟩)⟩⟩

theorem witness_Costs : encode (.ldaa (.imm 0x42)) = [0x86, 0x42] ∧ decidedParams.cyc[0x86]? = some 2 ∧
    encode (.unimpl 0x87) = [0x87] ∧ decidedParams.cyc[0xFF]? = some 6 ∧ encode (.stx (.ext 0)) = [0xFF, 0, 0] := by decide

/-- A state for each of the six arms; for the last two, once with a masked IRQ pending and once with none. -/
theorem witness_DecisionPriority :
    let s := cpu 0 0 0 0 0 0 []
    let m := { cpu 0 0 0 0 0 0x10 [] with irqPending := true, parked := true }
    { s with resetPending := true, halt := true }.resetPending = true ∧
    (let h := { s with halt := true, nmiPending := true }
     h.resetPending = false ∧ h.halt = true) ∧
    (let n := { s with nmiPending := true, irqPending := true }
     n.resetPending = false ∧ n.halt = false ∧ n.nmiPending = true) ∧
    (let q := { s with irqPending := true, parked := true }
     q.resetPending = false ∧ q.halt = false ∧ q.nmiPending = false ∧ q.irqPending = true ∧ q.flags.i = false) ∧
    (m.resetPending = false ∧ m.halt = false ∧ m.nmiPending = false ∧ (m.irqPending = false ∨ m.flags.i = true) ∧
      m.parked = true) ∧
    (s.resetPending = false ∧ s.halt = false ∧ s.nmiPending = false ∧ (s.irqPending = false ∨ s.flags.i = true) ∧
      s.parked = false) := by decide

theorem witness_ReturnFromInterrupt : (∀ a ∈ frameAddresses (cpu 1 2 3 3 5 0 []), Writable (cpu 1 2 3 3 5 0 []) a) ∧
    Memory.wf (cpu 1 2 3 3 5 0 []).mem = true ∧ (cpu 1 2 3 3 5 0 []).parked = false ∧
    (∃ t, exec .rti (serviceIrq (cpu 1 2 3 3 5 0 [])) = .next t) ∧
    ∃ t, exec .rti (serviceNmi (cpu 1 2 3 3 5 0 [])) = .next t :=
  ⟨fun a _ => flat_writable _ rfl a, by decide, by decide, ⟨_, rfl⟩, ⟨_, rfl⟩⟩

/-- A machine with these calls still to come. -/
def queued (ks : List HostCall) : State := { cpu 0 0 0 0 0 0 [] with calls := ks }

theorem witness_HostSignals : (queued [.signal .reset]).call = none ∧
    (queued [.signal .reset]).calls = .signal .reset :: [] ∧
    (queued [.signal .nmi]).calls = .signal .nmi :: [] ∧ (queued [.signal .irq]).calls = .signal .irq :: [] ∧
    (queued [.signal (.halt true)]).calls = .signal (.halt true) :: [] ∧
    (queued [.signal (.halt false)]).calls = .signal (.halt false) :: [] ∧
    (queued [.signal (.inputA 0xFF)]).calls = .signal (.inputA 0xFF) :: [] ∧
    (queued [.signal (.inputB 0x00)]).calls = .signal (.inputB 0x00) :: [] ∧
    (queued [.signal (.inputCb2 true)]).calls = .signal (.inputCb2 true) :: [] ∧
    (queued [.signal (.ctlEvent .cb1)]).calls = .signal (.ctlEvent .cb1) :: [] ∧
    (queued [.signal .t2Pulse]).calls = .signal .t2Pulse :: [] ∧
    (queued [.signal .srExtPulse]).calls = .signal .srExtPulse :: [] := by decide

/-- Halt entered, halt left, parked left, parked entered: a step of each. -/
theorem witness_HaltAndParked :
    ((queued [.signal (.halt true)]).halt = false ∧
      steps (queued [.signal (.halt true)]) (fun t => t.halt) = true) ∧
    steps { cpu 0 0 0 0 0 0 [] with halt := true, resetPending := true } (fun t => !t.halt) = true ∧
    steps { cpu 0 0 0 0 0 0 [] with parked := true, nmiPending := true } (fun t => !t.parked) = true ∧
    ((cpu 0 0 0 0x1FF 0 0 [(0x0, 0x3E)]).parked = false ∧
      steps (cpu 0 0 0 0x1FF 0 0 [(0x0, 0x3E)]) (fun t => t.parked) = true) := by decide +kernel

/-- The latch raised by the call, and by the line. -/
theorem witness_IrqLatch :
    (steps (queued [.signal .irq]) (fun t => t.irqPending) = true ∧ (queued [.signal .irq]).irqPending = false) ∧
    (queued [.signal .irq]).cfg.irqRouting = .risingEdgePerTick ∧
    steps { queued [.routeIrq] with via := { viaInitial with ifr := 0x40, ier := 0x40 } } (fun t => t.irqPending) = true := by
  decide +kernel

theorem witness_Snapshot :
    let s := cpu 1 2 3 4 5 6 [(0x0, 0x42), (0xFFFF, 0x86)]
    let u := queued [.importState (snapshotOf s)]
    u.call = none ∧ u.calls = .importState (snapshotOf s) :: [] ∧ Memory.wf s.mem = true ∧ s.cellsBacked = true ∧
      s.via.countOk = true ∧ s.cfg = u.cfg := by decide +kernel

theorem witness_NegativeBudget : (queued [.tick (-1)]).call = none ∧ (queued [.tick (-1)]).calls = .tick (-1) :: [] ∧
    (queued [.step (-1)]).calls = .step (-1) :: [] ∧ (queued [.tick 0]).calls = .tick 0 :: [] ∧
    (queued [.step 0]).calls = .step 0 :: [] := by decide

theorem witness_NoStepStops : (queued [.tick 0, .step 5, .signal .reset]).callsProper = true ∧ State.reset.callsProper = true := by
  decide

/-- A refusal is reached, so the last clause is about something. -/
theorem witness_Misuse : (queued [.tick (-1)]).callsProper = false ∧ step (queued [.tick (-1)]) = .refused .misuse :=
  ⟨by decide, rfl⟩

/-- A queued call with no budget; each way of being in a call; a decision that leaves budget, and one that uses it up. -/
theorem witness_CallsCourse :
    let s := { cpu 0 0 0 0 0x300 0 [(0x300, 0x01)] with call := some ⟨true, 10, 7⟩ }
    let u := { cpu 0 0 0 0 0x300 0 [(0x300, 0x01)] with call := some ⟨false, 10, 8⟩ }
    (queued [.step 0]).call = none ∧ (queued [.step 0]).calls = .step 0 :: [] ∧
    (queued [.tick 0]).calls = .tick 0 :: [] ∧
    InCall s s ⟨true, 10, 7⟩ ∧ (∃ t, decision 3 s = .next (t, 2)) ∧ 7 + 2 < 10 ∧
    InCall u u ⟨false, 10, 8⟩ ∧ (∃ t, decision 2 u = .next (t, 2)) ∧ 10 ≤ 8 + 2 ∧
    InCall (queued [.tick 1]) (queued []) ⟨true, 1, 0⟩ ∧ InCall (queued [.step 1]) (queued []) ⟨false, 1, 0⟩ ∧
    InCall (queued []) (queued []) ⟨true, 1, 0⟩ ∧ (queued []).reactions = [] :=
  ⟨rfl, rfl, rfl, .inl ⟨rfl, rfl⟩, ⟨_, rfl⟩, by decide, .inl ⟨rfl, rfl⟩, ⟨_, rfl⟩, by decide,
    .inr (.inl ⟨rfl, rfl, [], rfl, .inr ⟨rfl, rfl⟩⟩), .inr (.inl ⟨rfl, rfl, [], rfl, .inl ⟨rfl, rfl⟩⟩),
    .inr (.inr ⟨rfl, rfl, rfl, rfl⟩), rfl⟩

theorem witness_CallsEnd :
    let s := { cpu 0 0 0 0 0 0 [] with call := some ⟨true, 10, 9⟩ }
    s.cfg.costsPositive = true ∧ s.call = some ⟨true, 10, 9⟩ ∧ (⟨true, 10, 9⟩ : Call).consumed < 10 := by decide +kernel

theorem witness_EveryStep : State.reset.Inv ∧ ∃ t, step State.reset = .next t :=
  ⟨⟨by decide, by decide, by decide, by decide, by decide⟩, ⟨_, rfl⟩⟩

/-- The four clauses of the closed form, at their boundaries: unarmed, `n = c0`, one-shot and free-run at `n = c0 + 1`. -/
theorem witness_Timers :
    let v := { viaInitial with t1 := ⟨3, 5, true⟩ }
    let w := { v with acr := 0x40 }
    (viaInitial.t1.armed = false ∧ viaInitial.t2.armed = false ∧ viaInitial.acr.getLsbD 5 = false) ∧
    (v.t1.armed = true ∧ 3 ≤ v.t1.counter.toNat ∧ v.acr.getLsbD 6 = false ∧ v.t1.counter.toNat < 4) ∧
    (w.t1.armed = true ∧ w.acr.getLsbD 6 = true ∧ w.t1.counter.toNat < 4) := by decide

theorem witness_TicksClearNoFlag : { viaInitial with ifr := 0x7F }.ifr.getLsbD 6 = true ∧
    { viaInitial with ifr := 0x7F }.ifr.getLsbD 0 = true := by decide

theorem witness_ChipRegisterReads : ((0xF : BitVec 4) ≠ 4 ∧ (0xF : BitVec 4) ≠ 8 ∧ (0xF : BitVec 4) ≠ 0xA) ∧
    ((0 : BitVec 4) ≠ 4 ∧ (0 : BitVec 4) ≠ 8 ∧ (0 : BitVec 4) ≠ 0xA) := by decide

theorem witness_ChipEvents :
    let v := { viaInitial with srCount := 7 }
    let w := { v with acr := 0x1C }
    let x := { viaInitial with acr := 0x30 }
    let y := { viaInitial with acr := 0x18 }
    (v.acr.getLsbD 5 = false ∧ shiftMode v ≠ 0b011 ∧ shiftMode v ≠ 0b111 ∧ shiftMode w = 0b111 ∧
      v.srCount < 8 ∧ shiftMode v < 4 ∧ 4 ≤ shiftMode w) ∧
    (x.acr.getLsbD 5 = true ∧ shiftMode x = 0b100 ∧ x.srCount = 8) ∧ (shiftMode y = 0b110 ∧ y.srCount = 8) ∧
    (shiftMode w ∉ ([0b001, 0b100, 0b101] : List Nat) ∧ shiftMode w ∉ ([0b010, 0b110] : List Nat)) ∧
    { w with acr := 0x3C }.acr.getLsbD 5 = true ∧ (queued [.chipReset]).call = none ∧
    (queued [.chipReset]).calls = .chipReset :: [] := by decide

theorem witness_EightShifts :
    let v := { viaInitial with srCount := 0, acr := 0x18, sr := 0xA5 }
    v.srCount = 0 ∧ 4 < shiftMode v := by decide

/-- Both timers and both instructions. -/
theorem witness_WordStoreToTimer :
    let r : Region := ⟨0xC800, 0x0010, .deviceBacked (some .chip)⟩
    let u := { State.reset with x := 0xC800 }
    (ownerOf u.cfg.regions 0xC804 = some r ∧ ownerOf u.cfg.regions (0xC804 + 1) = some r ∧
      ownerOf u.cfg.regions 0xC808 = some r ∧ ownerOf u.cfg.regions (0xC808 + 1) = some r ∧
      registerAt r 0xC804 = 4 ∧ registerAt r (0xC804 + 1) = 5 ∧ registerAt r 0xC808 = 8 ∧ registerAt r (0xC808 + 1) = 9 ∧
      eaDst u (.ext 0xC804) = 0xC804 ∧ eaDst u (.idx 0x08) = 0xC808) ∧
    (∃ t, exec (.stx (.ext 0xC804)) u = .next t) ∧ ∃ t, exec (.sts (.idx 0x08)) u = .next t :=
  ⟨by decide, ⟨_, rfl⟩, ⟨_, rfl⟩⟩

end Sys2Proof.Tests
end

section
/-! Halves and joins of words as numbers (00_scope.md R16). -/

namespace Sys2Proof

theorem hi8_toNat (w : Word) : (hi8 w).toNat = w.toNat / 256 := by
  have := w.isLt
  simp only [hi8, BitVec.extractLsb'_toNat, Nat.shiftRight_eq_div_pow]
  omega

theorem lo8_toNat (w : Word) : (lo8 w).toNat = w.toNat % 256 := by
  simp [lo8, BitVec.extractLsb'_toNat]

theorem join_toNat (h l : Byte) : (join h l).toNat = 256 * h.toNat + l.toNat := by
  rw [join, BitVec.toNat_append, ← Nat.shiftLeft_add_eq_or_of_lt l.isLt, Nat.shiftLeft_eq]
  omega

/-- A new low byte under the high byte of a word. -/
theorem join_hi8_eq_ofNat (w : Word) (l : Byte) :
    join (hi8 w) l = BitVec.ofNat 16 (256 * (w.toNat / 256 % 256) + l.toNat % 256) := by
  apply BitVec.eq_of_toNat_eq
  rw [join_toNat, hi8_toNat, BitVec.toNat_ofNat]
  omega

/-- A new high byte over the low byte of a word. -/
theorem join_lo8_eq_ofNat (h : Byte) (w : Word) :
    join h (lo8 w) = BitVec.ofNat 16 (256 * (h.toNat % 256) + w.toNat % 256) := by
  apply BitVec.eq_of_toNat_eq
  rw [join_toNat, lo8_toNat, BitVec.toNat_ofNat]
  omega

end Sys2Proof
end

section
/-! The writes of the chip's registers (60_exceptions.md R360). -/

namespace Sys2Proof.Machine

/-- With a control bit, a write of its register sets `T2_FREERUN` to that bit besides (00_scope.md R15, log 11). -/
theorem Via.registerWrite_some (v : Via) (c : ControlBit) (reg : BitVec 4) (b : Byte) : v.registerWrite (some c) reg b =
    if reg = c.reg then { v.registerWrite none reg b with t2FreeRun := b.getLsbD c.bit.val }
    else v.registerWrite none reg b := by
  by_cases h : c.reg = reg
  · simp [Via.registerWrite, Via.selectT2, h]
  · simp [Via.registerWrite, Via.selectT2, h, Ne.symm h]

/-- A write of `IFR`, bit by bit: it clears the flags that bits 6 to 0 of the byte name (60_exceptions.md R362). -/
theorem Via.writeIfr_ifr_getLsbD (v : Via) (b : Byte) (k : Nat) (hk : k < 7) :
    (v.clear (b.extractLsb' 0 7)).ifr.getLsbD k = (v.ifr.getLsbD k && !b.getLsbD k) := by
  simp [Via.clear, hk]

/-- A write of `IER`, bit by bit: bit 7 of the byte sets or clears the enables that its other bits name (R363). -/
theorem Via.writeIer_ier_getLsbD (v : Via) (b : Byte) (k : Nat) (hk : k < 7) : (v.writeIer b).ier.getLsbD k =
    if b.getLsbD 7 then v.ier.getLsbD k || b.getLsbD k else v.ier.getLsbD k && !b.getLsbD k := by
  simp only [Via.writeIer]
  split <;> simp [hk]

/-- Settles O57: each register stores as its rule says, the timers' words being joins of halves; IFR and IER bit by bit. -/
theorem chipRegisterWrites : Obligations.ChipRegisterWrites := by
  refine ⟨Via.registerWrite_some, fun v b => ?_⟩
  simp only [← join_hi8_eq_ofNat, ← join_lo8_eq_ofNat]
  refine ⟨rfl, rfl, rfl, rfl, rfl, rfl, rfl, rfl, rfl, rfl, rfl, rfl, rfl, rfl, ⟨rfl, fun k hk => ?_⟩, rfl, fun k hk => ?_⟩
  · exact v.writeIfr_ifr_getLsbD b k hk
  · exact v.writeIer_ier_getLsbD b k hk

end Sys2Proof.Machine
end

section
/-! What every operation of the chip keeps. -/

namespace Sys2Proof.Machine

/-- What an operation of the chip keeps: the shift counter in 0..8 (10_state.md R44), and, where no register bit controls it,
timer 2 one-shot (R43). -/
structure Via.Kept (control : Option ControlBit) (v w : Via) : Prop where
  count : v.countOk = true → w.countOk = true
  oneShot : control = none → v.t2FreeRun = false → w.t2FreeRun = false

/-- The counter and `T2_FREERUN` as they were. -/
theorem Via.Kept.of_eq {control : Option ControlBit} {v w : Via} (count : w.srCount = v.srCount)
    (freeRun : w.t2FreeRun = v.t2FreeRun) : Via.Kept control v w :=
  ⟨fun h => by rwa [Via.countOk, count], fun _ h => freeRun.trans h⟩

theorem Via.Kept.trans {control : Option ControlBit} {v w x : Via} (h : Via.Kept control v w)
    (h' : Via.Kept control w x) : Via.Kept control v x :=
  ⟨fun hv => h'.count (h.count hv), fun hc hv => h'.oneShot hc (h.oneShot hc hv)⟩

/-- A counter at 0 is in range. -/
theorem Via.Kept.of_zero {control : Option ControlBit} {v w : Via} (count : w.srCount = 0)
    (freeRun : w.t2FreeRun = v.t2FreeRun) : Via.Kept control v w :=
  ⟨fun _ => by simp [Via.countOk, count], fun _ h => freeRun.trans h⟩

section
variable (control : Option ControlBit) (v : Via)

theorem Via.registerRead_kept (bit7 : Bool) (reg : BitVec 4) : Via.Kept control v (v.registerRead bit7 reg).2 := by
  unfold Via.registerRead
  split
  case h_11 => exact .of_zero rfl rfl
  all_goals exact .of_eq rfl rfl

theorem Via.storeRegister_kept (reg : BitVec 4) (b : Byte) : Via.Kept control v (v.storeRegister reg b) := by
  unfold Via.storeRegister
  split
  case h_11 => exact .of_zero rfl rfl
  all_goals exact .of_eq rfl rfl

theorem Via.registerWrite_kept (reg : BitVec 4) (b : Byte) : Via.Kept control v (v.registerWrite control reg b) := by
  obtain ⟨count, oneShot⟩ := v.storeRegister_kept control reg b
  constructor
  · rw [Via.registerWrite_frame]
    exact count
  · rintro rfl
    exact oneShot rfl

theorem Via.raise_kept (mask : BitVec 7) : Via.Kept control v (v.raise mask) := .of_eq rfl rfl

theorem Via.t1Cycle_kept : Via.Kept control v v.t1Cycle.1 := by
  rw [Via.t1Cycle_frame]
  exact .of_eq rfl rfl

theorem Via.t2Cycle_kept : Via.Kept control v v.t2Cycle.1 := by
  rw [Via.t2Cycle_frame]
  exact .of_eq rfl rfl

/-- A shift counts one, from a count below 8 or from 0 again (60_exceptions.md R356). -/
theorem Via.srShift_kept : Via.Kept control v v.srShift := by
  unfold Via.srShift
  split
  · exact .of_eq rfl rfl
  · rw [Via.srTally_frame, Via.srMove_frame]
    refine ⟨fun h => ?_, fun _ h => h⟩
    simp only [Via.countOk, decide_eq_true_eq] at h ⊢
    split <;> omega

theorem Via.srCycle_kept (u2 : Bool) : Via.Kept control v (v.srCycle u2) := by
  unfold Via.srCycle
  split
  · exact v.srShift_kept control
  · split
    · exact v.srShift_kept control
    · exact .of_eq rfl rfl

theorem Via.cycle_kept : Via.Kept control v v.cycle := by
  refine (v.t1Cycle_kept control).trans ?_
  simp only [Via.cycle]
  split
  · exact Via.srCycle_kept control _ false
  · exact (Via.t2Cycle_kept control _).trans (Via.srCycle_kept control _ _)

theorem Via.tick_kept (n : Nat) : Via.Kept control v (v.tick n) := by
  induction n generalizing v with
  | zero => exact .of_eq rfl rfl
  | succ n ih => exact (v.cycle_kept control).trans (ih v.cycle)

theorem Via.t2Pulse_kept : Via.Kept control v v.t2Pulse := by
  simp only [Via.t2Pulse]
  split
  · split
    · exact (v.t2Cycle_kept control).trans (Via.srShift_kept control _)
    · exact v.t2Cycle_kept control
  · exact .of_eq rfl rfl

theorem Via.srExtPulse_kept : Via.Kept control v v.srExtPulse := by
  unfold Via.srExtPulse
  split
  · exact v.srShift_kept control
  · exact .of_eq rfl rfl

/-- The chip's own reset makes the counter 8 and `T2_FREERUN` 0 (10_state.md R52). -/
theorem Via.reset_kept : Via.Kept control v v.reset := ⟨fun _ => rfl, fun _ _ => rfl⟩

end

end Sys2Proof.Machine
end

section
/-! Sequences of memory accesses: what any instruction can do to the machine. -/

namespace Sys2Proof.Machine

/-- From `s` to `t` by reads and writes of bytes and updates of what belongs to the CPU alone: its registers and flags,
`parked`, the count of free values. -/
inductive Accesses (s : State) : State → Prop where
  | refl : Accesses s s
  | read {t : State} (h : Accesses s t) (addr : Word) : Accesses s (read8 t addr).2
  | write {t : State} (h : Accesses s t) (addr : Word) (v : Byte) : Accesses s (write8 t addr v)
  | update {t : State} (h : Accesses s t) {a b : Byte} {x sp pc : Word} {flags : Flags} {parked : Bool} {free : Nat} :
    Accesses s { t with a := a, b := b, x := x, sp := sp, pc := pc, flags := flags, parked := parked, free := free }

namespace Accesses

variable {s t : State}

theorem read16 (h : Accesses s t) (addr : Word) : Accesses s (read16 t addr).2 := (h.read addr).read (addr + 1)

theorem write16 (h : Accesses s t) (addr w : Word) : Accesses s (write16 t addr w) :=
  (h.write addr (hi8 w)).write (addr + 1) (lo8 w)

theorem fetch8 (h : Accesses s t) : Accesses s (fetch8 t).2 := (h.read t.pc).update

theorem push8 (h : Accesses s t) (v : Byte) : Accesses s (push8 t v) := (h.write t.sp v).update

theorem pull8 (h : Accesses s t) : Accesses s (pull8 t).2 := Accesses.read (t := t.setSp (t.sp + 1)) h.update _

theorem push16 (h : Accesses s t) (w : Word) : Accesses s (push16 t w) := (h.push8 (lo8 w)).push8 (hi8 w)

theorem pull16 (h : Accesses s t) : Accesses s (pull16 t).2 := h.pull8.pull8

theorem pushAll (h : Accesses s t) : Accesses s (pushAll t) :=
  ((((h.push16 t.pc).push16 t.x).push8 t.a).push8 t.b).push8 t.flags.pack

/-- The registers a pulled frame restores. -/
theorem restore (h : Accesses s t) (flags : Flags) (b a : Byte) (x pc : Word) :
    Accesses s (((((t.setFlags flags).setB b).setA a).setX x).setPc pc) := h.update

theorem pullAll (h : Accesses s t) : Accesses s (pullAll t) :=
  h.pull8.pull8.pull8.pull16.pull16.restore _ _ _ _ _

theorem enterInterrupt (h : Accesses s t) (push mask : Bool) (vector : Word) :
    Accesses s (enterInterrupt t push mask vector) := by
  have pushed : Accesses s (if push then Machine.pushAll t else t) := by
    split
    · exact h.pushAll
    · exact h
  cases mask
  · exact (pushed.read16 vector).update
  · exact (pushed.update.read16 vector).update

theorem operand8 (h : Accesses s t) (o : Src8) : Accesses s (operand8 t o).2 := by
  cases o with
  | imm v => exact h
  | dir addr | idx off | ext addr => exact h.read _

theorem operand16 (h : Accesses s t) (o : Src16) : Accesses s (operand16 t o).2 := by
  cases o with
  | imm w => exact h
  | dir addr | idx off | ext addr => exact h.read16 _

theorem operandAdx (h : Accesses s t) (o : AdxSrc) : Accesses s (operandAdx t o).2 := by
  cases o with
  | imm v => exact h
  | ext addr => exact h.read16 _

theorem fetchInstr (h : Accesses s t) : Accesses s (fetchInstr t).2 := by
  simp only [Machine.fetchInstr]
  split
  · exact h.fetch8
  · exact h.fetch8.fetch8
  · exact h.fetch8.fetch8.fetch8

theorem branchIf (h : Accesses s t) (cond : Bool) (rel : Byte) : Accesses s (branchIf t cond rel) := by
  unfold Machine.branchIf
  split
  · exact h.update
  · exact h

end Accesses

/-- Every instruction completes, in every state, by accesses to memory and updates of the CPU (40_load_store_transfer.md
R130, 60_exceptions.md R324). -/
theorem exec_accesses (i : Instr) (s : State) : ∃ t, exec i s = .next t ∧ Accesses s t := by
  have h : Accesses s s := .refl
  cases i with
  | ldaa o | ldab o | adda o | addb o | adca o | adcb o | suba o | subb o | sbca o | sbcb o | cmpa o | cmpb o
  | anda o | andb o | oraa o | orab o | eora o | eorb o | bita o | bitb o => exact ⟨_, rfl, (h.operand8 o).update⟩
  | ldx o | lds o | cpx o => exact ⟨_, rfl, (h.operand16 o).update⟩
  | adx o => exact ⟨_, rfl, (h.operandAdx o).update⟩
  | staa d | stab d | clr d => exact ⟨_, rfl, (h.write _ _).update⟩
  | stx d | sts d => exact ⟨_, rfl, (h.write16 _ _).update⟩
  | neg m | inc m | dec m | com m | asl m | asr m | lsr m | rol m | ror m => exact ⟨_, rfl, ((h.read _).write _ _).update⟩
  | nim imm off | oim imm off | xim imm off => exact ⟨_, rfl, ((h.read _).write _ _).update⟩
  | tst m | tmm m off => exact ⟨_, rfl, (h.read _).update⟩
  | bra rel | bhi rel | bls rel | bcc rel | bcs rel | bne rel | beq rel | bvc rel | bvs rel | bpl rel | bmi rel
  | bge rel | blt rel | bgt rel | ble rel => exact ⟨_, rfl, h.branchIf _ rel⟩
  | psha | pshb => exact ⟨_, rfl, h.push8 _⟩
  | pula | pulb => exact ⟨_, rfl, h.pull8.update⟩
  | bsr d | jsr d => exact ⟨_, rfl, (h.push16 _).update⟩
  | rts => exact ⟨_, rfl, h.pull16.update⟩
  | swi => exact ⟨_, rfl, h.enterInterrupt true true _⟩
  | rti => exact ⟨_, rfl, h.pullAll⟩
  | wai => exact ⟨_, rfl, h.pushAll.update⟩
  | nop | unimpl op => exact ⟨_, rfl, h⟩
  | tab | tba | tsx | txs | clra | clrb | aba | sba | cba | daa | nega | negb | inca | incb | deca | decb | tsta | tstb
  | inx | dex | ins | des | coma | comb | asla | aslb | asra | asrb | lsra | lsrb | rola | rolb | rora | rorb | jmp m
  | clc | sec | clv | sev | cli | sei | tap | tpa => exact ⟨_, rfl, h.update⟩

end Sys2Proof.Machine
end

section
/-! The invariant through every operation of the machine. -/

namespace Sys2Proof.Machine

/-- What every operation within one call keeps: the configuration and the calls, and of the invariant the parts about memory
(10_state.md R47) and the chip (R43, R44). -/
structure Kept (s t : State) : Prop where
  cfg : t.cfg = s.cfg
  call : t.call = s.call
  calls : t.calls = s.calls
  wf : Memory.wf s.mem = true → Memory.wf t.mem = true
  backed : s.cellsBacked = true → t.cellsBacked = true
  chip : Via.Kept s.cfg.t2FreeRunControl s.via t.via

theorem Kept.refl (s : State) : Kept s s := ⟨rfl, rfl, rfl, id, id, .of_eq rfl rfl⟩

theorem Kept.trans {s t u : State} (h : Kept s t) (h' : Kept t u) : Kept s u where
  cfg := h'.cfg.trans h.cfg
  call := h'.call.trans h.call
  calls := h'.calls.trans h.calls
  wf hs := h'.wf (h.wf hs)
  backed hs := h'.backed (h.backed hs)
  chip := h.chip.trans (h.cfg ▸ h'.chip)

/-- An operation on the chip alone, besides fields the invariant does not speak of. -/
theorem Kept.of_chip {s t : State} (cfg : t.cfg = s.cfg) (call : t.call = s.call) (calls : t.calls = s.calls)
    (mem : t.mem = s.mem) (chip : Via.Kept s.cfg.t2FreeRunControl s.via t.via) : Kept s t where
  cfg := cfg
  call := call
  calls := calls
  wf h := mem ▸ h
  backed h := by rwa [State.cellsBacked, mem, cfg]
  chip := chip

/-- A change of fields that the invariant does not speak of. -/
theorem Kept.of_same {s t : State} (cfg : t.cfg = s.cfg) (call : t.call = s.call) (calls : t.calls = s.calls)
    (mem : t.mem = s.mem) (via : t.via = s.via) : Kept s t :=
  .of_chip cfg call calls mem (.of_eq (congrArg Via.srCount via) (congrArg Via.t2FreeRun via))

/-- A byte stored in a backed cell. -/
theorem Kept.of_store (s : State) (a : Word) (v : Byte) (h : Machine.backed s.cfg a = true) :
    Kept s (s.setMem (memSet s.mem a.toNat v)) where
  cfg := rfl
  call := rfl
  calls := rfl
  wf := memSet_wf s.mem a.toNat v a.isLt
  backed hs := by
    simp only [State.cellsBacked, List.all_eq_true] at hs ⊢
    intro c hc
    rcases mem_of_mem_memSet _ _ _ _ hc with hc | rfl
    · exact hs c hc
    · simpa using h
  chip := .of_eq rfl rfl

theorem read8_kept (s : State) (a : Word) : Kept s (read8 s a).2 := by
  unfold read8
  split
  · exact .refl s
  · split
    case h_4 => exact .of_chip rfl rfl rfl rfl (s.via.registerRead_kept _ _ _)
    all_goals exact .of_same rfl rfl rfl rfl rfl

theorem write8_kept (s : State) (a : Word) (v : Byte) : Kept s (write8 s a v) := by
  unfold write8
  split
  · exact .refl s
  · next r owner =>
    split
    case h_1 mode => exact .of_store s a v (by simp [backed, owner, mode])
    case h_4 => exact .of_chip rfl rfl rfl rfl (s.via.registerWrite_kept _ _ _)
    all_goals exact .of_same rfl rfl rfl rfl rfl

/-- Memory accesses and updates of the CPU keep what an operation keeps. -/
theorem Accesses.kept {s t : State} (h : Accesses s t) : Kept s t := by
  induction h with
  | refl => exact .refl s
  | read _ addr ih => exact ih.trans (read8_kept _ addr)
  | write _ addr v ih => exact ih.trans (write8_kept _ addr v)
  | update _ ih => exact ih.trans (.of_same rfl rfl rfl rfl rfl)

/-! ### A decision -/

theorem resetSequence_kept (s : State) : Kept s (resetSequence s) :=
  (Kept.of_same rfl rfl rfl rfl rfl : Kept s (resetRegisters s)).trans (Accesses.refl.read16 _).update.kept

theorem serviceNmi_kept (s : State) : Kept s (serviceNmi s) :=
  (Kept.of_same rfl rfl rfl rfl rfl : Kept s ((s.setParked false).setNmiPending false)).trans
    (Accesses.refl.enterInterrupt _ _ _).kept

theorem serviceIrq_kept (s : State) : Kept s (serviceIrq s) :=
  (Kept.of_same rfl rfl rfl rfl rfl : Kept s ((s.setParked false).setIrqPending false)).trans
    (Accesses.refl.enterInterrupt _ _ _).kept

/-- Every decision completes and keeps what an operation keeps, whatever arm it takes (60_exceptions.md R321, R324). -/
theorem decision_kept (n : Nat) (s : State) : ∃ t k, decision n s = .next (t, k) ∧ Kept s t := by
  unfold decision
  split
  · exact ⟨_, _, rfl, resetSequence_kept s⟩
  · exact ⟨_, _, rfl, .refl s⟩
  · exact ⟨_, _, rfl, serviceNmi_kept s⟩
  · exact ⟨_, _, rfl, serviceIrq_kept s⟩
  · exact ⟨_, _, rfl, .refl s⟩
  · obtain ⟨t, ht, accesses⟩ := exec_accesses (fetchInstr s).1 (fetchInstr s).2
    have fetched : Kept s (fetchInstr s).2 := Accesses.refl.fetchInstr.kept
    exact ⟨t, instrCost s.cfg (fetchInstr s).1, by simp only [executeOne, ht], fetched.trans accesses.kept⟩

/-! ### Input events, ticks, routing -/

theorem applySignal_kept (e : Signal) (s : State) : Kept s (applySignal e s) := by
  have viaKept {v : Via} (h : Via.Kept s.cfg.t2FreeRunControl s.via v) : Kept s (s.setVia v) := .of_chip rfl rfl rfl rfl h
  cases e with
  | reset | nmi | irq => exact .of_same rfl rfl rfl rfl rfl
  | halt level => cases level <;> exact .of_same rfl rfl rfl rfl rfl
  | inputA v | inputB v | inputCb2 v => exact viaKept (.of_eq rfl rfl)
  | ctlEvent line => exact viaKept (s.via.raise_kept _ line.flag)
  | t2Pulse => exact viaKept (s.via.t2Pulse_kept _)
  | srExtPulse => exact viaKept (s.via.srExtPulse_kept _)

theorem applySignals_kept (es : List Signal) (s : State) : Kept s (applySignals es s) := by
  induction es generalizing s with
  | nil => exact .refl s
  | cons e es ih => exact (applySignal_kept e s).trans (ih _)

theorem tickChip_kept (s : State) (n : Nat) : Kept s (tickChip s n) :=
  .of_chip rfl rfl rfl rfl (s.via.tick_kept _ n)

theorem report_kept (s : State) (o : Output) : Kept s (report s o) := .of_same rfl rfl rfl rfl rfl

theorem tickPeripheral_kept (n : Nat) (d : Device) (s : State) : Kept s (tickPeripheral n d s) := by
  cases d with
  | chip => exact tickChip_kept s n
  | external id =>
    simp only [tickPeripheral, tickExternal]
    split
    · exact report_kept s _
    · next es rest _ =>
      have told : Kept s ((report s (.externalTick id n)).setReactions rest) := .of_same rfl rfl rfl rfl rfl
      exact told.trans (applySignals_kept es _)

theorem tickPeripherals_kept (n : Nat) (ds : List Device) (s : State) : Kept s (tickPeripherals n ds s) := by
  induction ds generalizing s with
  | nil => exact .refl s
  | cons d ds ih => exact (tickPeripheral_kept n d s).trans (ih _)

theorem routeIrq_kept (s : State) : Kept s (routeIrq s) := .of_same rfl rfl rfl rfl rfl

theorem resetChip_kept (s : State) : Kept s (resetChip s) := .of_chip rfl rfl rfl rfl (s.via.reset_kept _)

theorem hostRead8_kept (a : Word) (s : State) : Kept s (hostRead8 a s) := (read8_kept s a).trans (report_kept _ _)

theorem hostRead16_kept (a : Word) (s : State) : Kept s (hostRead16 a s) :=
  (Accesses.refl.read16 a).kept.trans (report_kept _ _)

theorem hostRegisterRead_kept (reg : BitVec 4) (s : State) : Kept s (hostRegisterRead reg s) :=
  .of_chip rfl rfl rfl rfl (s.via.registerRead_kept _ _ reg)

theorem chipWrite_kept (s : State) (reg : BitVec 4) (v : Byte) : Kept s (chipWrite s reg v) :=
  .of_chip rfl rfl rfl rfl (s.via.registerWrite_kept _ reg v)

theorem placeByte_kept (s : State) (a : Word) (v : Byte) : Kept s (placeByte s a v) := by
  unfold placeByte
  split
  · next h => exact .of_store s a v h
  · exact .refl s

theorem placeCells_kept (s : State) (cs : List (Word × Byte)) : Kept s (placeCells s cs) := by
  induction cs generalizing s with
  | nil => exact .refl s
  | cons c cs ih => exact (placeByte_kept s c.1 c.2).trans (ih _)

/-! ### Calls of the host, and the step -/

theorem State.t2Ok_iff (s : State) : s.t2Ok = true ↔
    (s.cfg.t2FreeRunControl = none → s.via.t2FreeRun = false ∧ ∀ k ∈ s.calls, k.importsOneShot = true) := by
  cases h : s.cfg.t2FreeRunControl <;> simp [State.t2Ok, h]

/-- Where no register bit controls `T2_FREERUN`, no queued import sets it. -/
theorem State.Inv.importsOneShot {s : State} (hs : s.Inv) (hc : s.cfg.t2FreeRunControl = none) {k : HostCall}
    (hk : k ∈ s.calls) : k.importsOneShot = true := by
  obtain ⟨-, -, -, oneShot, -⟩ := hs
  exact ((State.t2Ok_iff s).mp oneShot hc).2 k hk

/-- What is kept within one call keeps the invariant. -/
theorem Kept.inv {s t : State} (h : Kept s t) (hs : s.Inv) : t.Inv := by
  obtain ⟨wf, cells, count, oneShot, budget⟩ := hs
  refine ⟨h.wf wf, h.backed cells, h.chip.count count, ?_, ?_⟩
  · rw [State.t2Ok_iff] at oneShot ⊢
    intro hc
    obtain ⟨free, imports⟩ := oneShot (h.cfg ▸ hc)
    exact ⟨h.chip.oneShot (h.cfg ▸ hc) free, h.calls ▸ imports⟩
  · rwa [State.callOk, h.call]

/-- The end of a call, or its going on with budget left, keeps the invariant. -/
theorem State.Inv.setCall {s : State} (hs : s.Inv) (c : Option Call)
    (hc : (s.setCall c).callOk = true) : (s.setCall c).Inv := by
  obtain ⟨wf, cells, count, oneShot, -⟩ := hs
  exact ⟨wf, cells, count, oneShot, hc⟩

/-- A call taken off the queue leaves the invariant. -/
theorem State.Inv.setCalls_tail {s : State} (hs : s.Inv) {k : HostCall} {rest : List HostCall} (h : s.calls = k :: rest) :
    (s.setCalls rest).Inv := by
  obtain ⟨wf, cells, count, oneShot, budget⟩ := hs
  refine ⟨wf, cells, count, ?_, budget⟩
  rw [State.t2Ok_iff] at oneShot ⊢
  intro hc
  obtain ⟨free, imports⟩ := oneShot hc
  exact ⟨free, fun k' hk => imports k' (h ▸ List.mem_cons_of_mem _ hk)⟩

theorem finishCall_inv (c : Call) (s : State) (hs : s.Inv) : (finishCall c s).Inv ∧ (finishCall c s).cfg = s.cfg := by
  have counted : Kept (s.setCall none) ((s.setCall none).setCycles (s.cycles + c.consumed)) :=
    .of_same rfl rfl rfl rfl rfl
  have finished : Kept (s.setCall none) (finishCall c s) := by
    simp only [finishCall]
    split
    · exact counted.trans ((tickPeripherals_kept _ _ _).trans (routeIrq_kept _))
    · exact counted.trans (.of_same rfl rfl rfl rfl rfl)
  exact ⟨finished.inv (hs.setCall none rfl), finished.cfg⟩

theorem afterDecision_inv (c : Call) (s : State) (hs : s.Inv) :
    (afterDecision c s).Inv ∧ (afterDecision c s).cfg = s.cfg := by
  unfold afterDecision
  split
  · next h => exact ⟨hs.setCall (some c) (decide_eq_true h), rfl⟩
  · exact finishCall_inv c s hs

/-- A turn of a call goes on, from any state. -/
theorem runCall_continues (c : Call) (s : State) : Continues (runCall c s) := by
  obtain ⟨t, k, ht, -⟩ := decision_kept (c.budget - c.consumed) s
  unfold runCall
  split
  · rw [ht]; exact ⟨_, rfl⟩
  · exact ⟨_, rfl⟩

theorem runCall_inv {c : Call} {s t : State} (hs : s.Inv) (h : runCall c s = .next t) : t.Inv ∧ t.cfg = s.cfg := by
  rcases runCall_cases h with ⟨-, rfl⟩ | ⟨-, u, n, hu, rfl⟩
  · exact finishCall_inv c s hs
  · obtain ⟨u', n', hu', kept⟩ := decision_kept (c.budget - c.consumed) s
    cases hu.symm.trans hu'
    obtain ⟨inv, cfg⟩ := afterDecision_inv { c with consumed := c.consumed + n } u (kept.inv hs)
    exact ⟨inv, cfg.trans kept.cfg⟩

theorem beginCall_inv {bus : Bool} {n : Int} {s t : State} (hs : s.Inv) (h : beginCall bus n s = .next t) :
    t.Inv ∧ t.cfg = s.cfg := by
  unfold beginCall at h
  split at h
  · cases h
  · exact runCall_inv hs h

/-- The import of a snapshot brings its own memory and shift count, both in order; `T2_FREERUN` is as the snapshot has it. -/
theorem importSnapshot_inv (p : Snapshot) (s : State) (hs : s.Inv)
    (hp : s.cfg.t2FreeRunControl = none → p.t2FreeRun = false) :
    (importSnapshot p s).Inv ∧ (importSnapshot p s).cfg = s.cfg := by
  have placed := placeCells_kept (importRegisters p s) p.cells
  refine ⟨placed.inv ?_, placed.cfg⟩
  obtain ⟨-, -, -, oneShot, budget⟩ := hs
  refine ⟨rfl, rfl, decide_eq_true (Nat.le_of_lt_succ p.srCount.isLt), ?_, budget⟩
  rw [State.t2Ok_iff] at oneShot ⊢
  exact fun hc => ⟨hp hc, (oneShot hc).2⟩

/-- A call of the host keeps the invariant, if it imports no free-running timer 2 where nothing controls its mode. -/
theorem hostCall_inv {k : HostCall} {s t : State} (hs : s.Inv)
    (hk : s.cfg.t2FreeRunControl = none → k.importsOneShot = true) (h : hostCall k s = .next t) :
    t.Inv ∧ t.cfg = s.cfg := by
  have of_kept {u : State} (kept : Kept s u) (hu : (.next u : Host.Outcome State Fault Refusal) = .next t) :
      t.Inv ∧ t.cfg = s.cfg := by
    cases hu
    exact ⟨kept.inv hs, kept.cfg⟩
  cases k with
  | signal e => exact of_kept (applySignal_kept e s) h
  | step n | tick n => exact beginCall_inv hs h
  | read8 a => exact of_kept (hostRead8_kept a s) h
  | write8 a v => exact of_kept (write8_kept s a v) h
  | read16 a => exact of_kept (hostRead16_kept a s) h
  | write16 a w => exact of_kept (Accesses.refl.write16 a w).kept h
  | chipReset => exact of_kept (resetChip_kept s) h
  | chipTick n => exact of_kept (tickChip_kept s n) h
  | routeIrq => exact of_kept (routeIrq_kept s) h
  | registerRead reg => exact of_kept (hostRegisterRead_kept reg s) h
  | registerWrite reg v => exact of_kept (chipWrite_kept s reg v) h
  | exportState => exact of_kept (report_kept s _) h
  | importState p =>
    cases h
    exact importSnapshot_inv p s hs (fun hc => by simpa [HostCall.importsOneShot] using hk hc)

/-- A call of the host goes on, or is refused as misuse for a negative budget (60_exceptions.md R320). -/
theorem hostCall_continues_or_misuse (k : HostCall) (s : State) :
    Continues (hostCall k s) ∨ (k.proper = false ∧ hostCall k s = .refused .misuse) := by
  cases k with
  | step n | tick n =>
    simp only [hostCall, beginCall, HostCall.proper]
    split
    · next h => exact .inr ⟨decide_eq_false (by omega), rfl⟩
    · exact .inl (runCall_continues _ _)
  | _ => exact .inl ⟨_, rfl⟩

/-- A step goes on, or a queued call with a negative budget is refused as misuse. -/
theorem step_continues_or_misuse (s : State) :
    Continues (step s) ∨ (s.callsProper = false ∧ step s = .refused .misuse) := by
  unfold step hostTurn
  split
  · exact .inl (runCall_continues _ _)
  · next k rest _ hcalls =>
    rcases hostCall_continues_or_misuse k (s.setCalls rest) with goesOn | ⟨improper, refused⟩
    · exact .inl goesOn
    · exact .inr ⟨by simp [State.callsProper, hcalls, improper], refused⟩
  · exact .inl (runCall_continues _ _)

/-- Settles O49: a step goes on, or is the refusal of a negative budget. -/
theorem noStepStopsWithoutMisuse : Obligations.NoStepStopsWithoutMisuse := by
  intro s
  rcases step_continues_or_misuse s with ⟨t, next⟩ | ⟨improper, refused⟩
  · simp [next, Continues]
  · simp [refused, improper]

/-- Settles O51: a step is a turn of a call, or one call of the host, and each keeps the invariant. -/
theorem everyStepKeepsTheStateWellFormed : Obligations.EveryStepKeepsTheStateWellFormed := by
  intro s t hs h
  rcases step_cases h with ⟨c, -, hrun⟩ | ⟨-, k, rest, hcalls, hhost⟩ | ⟨-, -, hrun⟩
  · exact runCall_inv hs hrun
  · exact hostCall_inv (s := s.setCalls rest) (hs.setCalls_tail hcalls)
      (fun hc => hs.importsOneShot hc (hcalls ▸ List.mem_cons_self)) hhost
  · exact runCall_inv hs hrun

end Sys2Proof.Machine
end

section
/-! What memory accesses and instructions leave alone: latches, bus and host (10_state.md R34 to R37, R48). -/

namespace Sys2Proof.Machine

/-- Memory accesses and updates of the CPU change the registers, the flags, `parked`, memory, the chip, the reports and the
count of free values, and no more. -/
theorem Accesses.frame {s t : State} (h : Accesses s t) : ∃ a b x sp pc flags parked via mem outs free, t =
    { s with a := a, b := b, x := x, sp := sp, pc := pc, flags := flags, parked := parked, via := via, mem := mem,
             outs := outs, free := free } := by
  induction h with
  | refl => exact ⟨_, _, _, _, _, _, _, _, _, _, _, rfl⟩
  | read _ addr ih =>
    obtain ⟨a, b, x, sp, pc, flags, parked, via, mem, outs, free, rfl⟩ := ih
    rw [read8_frame]
    exact ⟨_, _, _, _, _, _, _, _, _, _, _, rfl⟩
  | write _ addr v ih =>
    obtain ⟨a, b, x, sp, pc, flags, parked, via, mem, outs, free, rfl⟩ := ih
    rw [write8_frame]
    exact ⟨_, _, _, _, _, _, _, _, _, _, _, rfl⟩
  | update _ ih =>
    obtain ⟨a, b, x, sp, pc, flags, parked, via, mem, outs, free, rfl⟩ := ih
    exact ⟨_, _, _, _, _, _, _, _, _, _, _, rfl⟩

/-- What an instruction gives is reached by memory accesses and updates of the CPU. -/
theorem accesses_of_exec {i : Instr} {s t : State} (h : exec i s = .next t) : Accesses s t := by
  obtain ⟨u, hu, accesses⟩ := exec_accesses i s
  cases h.symm.trans hu
  exact accesses

/-- Settles O38: no latch, no field of the bus or of the host is among what memory accesses and updates of the CPU change. -/
theorem instructionsLeaveLatchesAndBusAlone : Obligations.InstructionsLeaveLatchesAndBusAlone := by
  intro i s t h
  obtain ⟨a, b, x, sp, pc, flags, parked, via, mem, outs, free, rfl⟩ := (accesses_of_exec h).frame
  exact ⟨rfl, rfl, rfl, rfl, rfl, rfl, rfl, rfl, rfl, rfl, rfl⟩

end Sys2Proof.Machine
end

section
/-! `halt` and `parked` through a step (10_state.md R37, R38). -/

namespace Sys2Proof.Machine

/-- No memory access and no update of the CPU touches `halt`. -/
theorem Accesses.halt_eq {s t : State} (h : Accesses s t) : t.halt = s.halt := by
  obtain ⟨a, b, x, sp, pc, flags, parked, via, mem, outs, free, rfl⟩ := h.frame
  rfl

/-- No memory access and no update of the CPU touches what the devices outside the core will do. -/
theorem Accesses.reactions_eq {s t : State} (h : Accesses s t) : t.reactions = s.reactions := by
  obtain ⟨a, b, x, sp, pc, flags, parked, via, mem, outs, free, rfl⟩ := h.frame
  rfl

/-- Taking an interrupt leaves `parked` as it finds it: the service has cleared it (60_exceptions.md R331, R332). -/
theorem enterInterrupt_parked (s : State) (push mask : Bool) (vector : Word) :
    (enterInterrupt s push mask vector).parked = s.parked := by
  cases push <;> cases mask <;> simp [enterInterrupt]

theorem serviceNmi_parked (s : State) : (serviceNmi s).parked = false := enterInterrupt_parked _ _ _ _

theorem serviceIrq_parked (s : State) : (serviceIrq s).parked = false := enterInterrupt_parked _ _ _ _

theorem serviceNmi_halt (s : State) : (serviceNmi s).halt = s.halt := (Accesses.refl.enterInterrupt _ _ _).halt_eq

theorem serviceIrq_halt (s : State) : (serviceIrq s).halt = s.halt := (Accesses.refl.enterInterrupt _ _ _).halt_eq

theorem serviceNmi_reactions (s : State) : (serviceNmi s).reactions = s.reactions :=
  (Accesses.refl.enterInterrupt _ _ _).reactions_eq

theorem serviceIrq_reactions (s : State) : (serviceIrq s).reactions = s.reactions :=
  (Accesses.refl.enterInterrupt _ _ _).reactions_eq

/-- The reset sequence clears `halt` and `parked` (R322). -/
theorem resetSequence_clears (s : State) : (resetSequence s).halt = false ∧ (resetSequence s).parked = false := by
  simp [resetSequence, resetRegisters]

theorem resetSequence_reactions (s : State) : (resetSequence s).reactions = s.reactions := by
  simp [resetSequence, resetRegisters]

/-- No tick of a peripheral touches `parked` (R38). -/
theorem tickPeripherals_parked (n : Nat) (ds : List Device) (s : State) :
    (tickPeripherals n ds s).parked = s.parked := by
  obtain ⟨v, r, n', q, halt, os, es, frame⟩ := tickPeripherals_frame n ds s
  rw [frame]

/-- No input event touches `parked` (R38). -/
theorem applySignal_parked (e : Signal) (s : State) : (applySignal e s).parked = s.parked := by
  obtain ⟨v, r, n, q, halt, frame⟩ := applySignal_frame e s
  rw [frame]

/-- What `halt` and `parked` can do between two states, as the rules allow (10_state.md R37, R38, 60_exceptions.md R333):
`raised` says how else `signal_halt(true)` may have been called than by a device outside the core. -/
structure HaltAndParkedStep (raised : Prop) (s t : State) : Prop where
  haltRises : s.halt = false → t.halt = true → raised ∨ ∃ es ∈ s.reactions, .halt true ∈ es
  haltFalls : s.halt = true → t.halt = false → s.resetPending = true
  parkedFalls : s.parked = true → t.parked = false → s.resetPending = true ∨
    (s.halt = false ∧ (s.nmiPending = true ∨ (s.irqPending = true ∧ s.flags.i = false)))
  parkedRises : s.parked = false → t.parked = true → Spec.Running s

namespace HaltAndParkedStep

variable {raised : Prop} {s t u : State}

theorem of_eq (halt : t.halt = s.halt) (parked : t.parked = s.parked) : HaltAndParkedStep raised s t where
  haltRises low high := by simp [halt, low] at high
  haltFalls high low := by simp [halt, high] at low
  parkedFalls high low := by simp [parked, high] at low
  parkedRises low high := by simp [parked, low] at high

/-- The reset sequence, with a reset pending, clears both. -/
theorem of_reset (reset : s.resetPending = true) (halt : t.halt = false) (parked : t.parked = false) :
    HaltAndParkedStep raised s t where
  haltRises _ high := by simp [halt] at high
  haltFalls _ _ := reset
  parkedFalls _ _ := .inl reset
  parkedRises _ high := by simp [parked] at high

/-- An interrupt service ends the parked state. -/
theorem of_service (halt : t.halt = s.halt) (parked : t.parked = false) (notHalted : s.halt = false)
    (cause : s.nmiPending = true ∨ (s.irqPending = true ∧ s.flags.i = false)) : HaltAndParkedStep raised s t where
  haltRises low high := by simp [halt, low] at high
  haltFalls high low := by simp [halt, high] at low
  parkedFalls _ _ := .inr ⟨notHalted, cause⟩
  parkedRises _ high := by simp [parked] at high

/-- An instruction may begin the parked state. -/
theorem of_instruction (halt : t.halt = s.halt) (running : Spec.Running s) : HaltAndParkedStep raised s t where
  haltRises low high := by simp [halt, low] at high
  haltFalls high low := by simp [halt, high] at low
  parkedFalls high _ := by
    obtain ⟨-, -, -, -, notParked⟩ := running
    simp [notParked] at high
  parkedRises _ _ := running

/-- What follows a decision within a step: `halt` may be raised by a reaction, `parked` stays. -/
theorem then_reactions (h : HaltAndParkedStep raised s u) (reactions : u.reactions = s.reactions)
    (up : u.halt = true → t.halt = true)
    (down : t.halt = true → u.halt = true ∨ ∃ es ∈ u.reactions, .halt true ∈ es) (parked : t.parked = u.parked) : HaltAndParkedStep raised s t where
  haltRises low high := by
    rcases down high with before | reaction
    · exact h.haltRises low before
    · exact .inr (reactions ▸ reaction)
  haltFalls high low := h.haltFalls high (Bool.eq_false_iff.mpr fun before => by simp [up before] at low)
  parkedFalls high low := h.parkedFalls high (parked ▸ low)
  parkedRises low high := h.parkedRises low (parked ▸ high)

end HaltAndParkedStep

/-- Arm by arm (60_exceptions.md R321): what a decision does to `halt` and `parked`. -/
theorem decision_haltAndParked (raised : Prop) {n k : Nat} {s u : State} (h : decision n s = .next (u, k)) :
    HaltAndParkedStep raised s u ∧ u.reactions = s.reactions := by
  rcases decision_cases h with ⟨mode, rfl, -⟩ | ⟨-, rfl, -⟩ | ⟨mode, rfl, -⟩ | ⟨mode, rfl, -⟩ | ⟨-, rfl, -⟩ |
    ⟨mode, hexec, -⟩
  · obtain ⟨halt, parked⟩ := resetSequence_clears s
    exact ⟨.of_reset ((mode_servicingReset_iff s).mp mode) halt parked, resetSequence_reactions s⟩
  · exact ⟨.of_eq rfl rfl, rfl⟩
  · obtain ⟨-, notHalted, nmi⟩ := (mode_servicingNmi_iff s).mp mode
    exact ⟨.of_service (serviceNmi_halt s) (serviceNmi_parked s) notHalted (.inl nmi), serviceNmi_reactions s⟩
  · obtain ⟨-, notHalted, -, irq⟩ := (mode_servicingIrq_iff s).mp mode
    exact ⟨.of_service (serviceIrq_halt s) (serviceIrq_parked s) notHalted (.inr irq), serviceIrq_reactions s⟩
  · exact ⟨.of_eq rfl rfl, rfl⟩
  · have fetched : Accesses s (fetchInstr s).2 := Accesses.refl.fetchInstr
    have executed := accesses_of_exec hexec
    exact ⟨.of_instruction (executed.halt_eq.trans fetched.halt_eq) ((mode_running_iff s).mp mode),
      executed.reactions_eq.trans fetched.reactions_eq⟩

/-- The end of a call, with the ticks of the peripherals, after a state that `h` allows. -/
theorem HaltAndParkedStep.finishCall {raised : Prop} {s u : State} (h : HaltAndParkedStep raised s u)
    (reactions : u.reactions = s.reactions) (c : Call) : HaltAndParkedStep raised s (finishCall c u) := by
  simp only [Machine.finishCall]
  split
  · obtain ⟨up, down⟩ := tickPeripherals_halt c.consumed u.cfg.peripherals.order
      ((u.setCall none).setCycles (u.cycles + c.consumed))
    exact h.then_reactions reactions up down (tickPeripherals_parked _ _ _)
  · exact h.then_reactions reactions id .inl rfl

/-- A turn of a call: one decision, or the end of the call, or both. -/
theorem runCall_haltAndParked (raised : Prop) {c : Call} {s t : State} (h : runCall c s = .next t) :
    HaltAndParkedStep raised s t := by
  rcases runCall_cases h with ⟨-, rfl⟩ | ⟨-, u, n, hd, rfl⟩
  · exact (HaltAndParkedStep.of_eq rfl rfl).finishCall rfl c
  · obtain ⟨decided, reactions⟩ := decision_haltAndParked raised hd
    unfold afterDecision
    split
    · exact decided.then_reactions reactions id .inl rfl
    · exact decided.finishCall reactions _

/-- Of the input events only `signal_halt(true)` touches `halt`, and none touches `parked`. -/
theorem applySignal_haltAndParked (e : Signal) (s : State) :
    HaltAndParkedStep (e = .halt true) s (applySignal e s) := by
  have halt : (applySignal e s).halt = true ↔ s.halt = true ∨ .halt true ∈ [e] := applySignals_halt [e] s
  have parked := applySignal_parked e s
  constructor
  · intro low high
    simp only [halt, low, Bool.false_eq_true, false_or, List.mem_singleton] at high
    exact .inl high.symm
  · intro high low
    simp [halt.mpr (.inl high)] at low
  · intro high low
    simp [parked, high] at low
  · intro low high
    simp [parked, low] at high

/-- A `step` or `tick` call begins with a turn of its loop. -/
theorem beginCall_haltAndParked (raised : Prop) {bus : Bool} {n : Int} {s t : State} (h : beginCall bus n s = .next t) :
    HaltAndParkedStep raised s t := by
  unfold beginCall at h
  split at h
  · cases h
  · exact runCall_haltAndParked raised h

/-- A call of the host that imports no snapshot. -/
theorem hostCall_haltAndParked {k : HostCall} {s t : State} (noImport : ∀ p, k ≠ .importState p)
    (h : hostCall k s = .next t) : HaltAndParkedStep (k = .signal (.halt true)) s t := by
  cases k with
  | signal e =>
    cases h
    simpa only [HostCall.signal.injEq] using applySignal_haltAndParked e s
  | step n | tick n => exact beginCall_haltAndParked _ h
  | importState p => exact absurd rfl (noImport p)
  | read8 addr => cases h; exact .of_eq (read8_halt s addr) (read8_parked s addr)
  | read16 addr => cases h; exact .of_eq (read16_halt s addr) (read16_parked s addr)
  | write8 addr v => cases h; exact .of_eq (write8_halt s addr v) (write8_parked s addr v)
  | write16 addr w => cases h; exact .of_eq (write16_halt s addr w) (write16_parked s addr w)
  | chipReset | chipTick n | routeIrq | registerRead reg | registerWrite reg v | exportState =>
    cases h
    exact .of_eq rfl rfl

/-- Every step but the import of a snapshot: a turn of a call, or one call of the host. -/
theorem step_haltAndParked {s t : State} (h : step s = .next t) :
    (s.call = none ∧ ∃ p rest, s.calls = .importState p :: rest) ∨
      HaltAndParkedStep (s.call = none ∧ ∃ rest, s.calls = .signal (.halt true) :: rest) s t := by
  rcases step_cases h with ⟨c, -, hrun⟩ | ⟨idle, k, rest, hcalls, hhost⟩ | ⟨-, -, hrun⟩
  · exact .inr (runCall_haltAndParked _ hrun)
  · by_cases hasImport : ∃ p, k = .importState p
    · obtain ⟨p, rfl⟩ := hasImport
      exact .inl ⟨idle, p, rest, hcalls⟩
    · obtain ⟨haltRises, haltFalls, parkedFalls, parkedRises⟩ :=
        hostCall_haltAndParked (fun p hp => hasImport ⟨p, hp⟩) hhost
      refine .inr ⟨fun low high => ?_, haltFalls, parkedFalls, parkedRises⟩
      exact (haltRises low high).imp_left fun (hk : k = .signal (.halt true)) => ⟨idle, rest, hk ▸ hcalls⟩
  · exact .inr (runCall_haltAndParked _ hrun)

/-- Settles O45: a step is a turn of a call, whose decision and ticks are looked at arm by arm, or one call of the host. -/
theorem haltAndParkedEnteredAndLeftOnlyAsStated : Obligations.HaltAndParkedEnteredAndLeftOnlyAsStated := by
  intro s t h
  refine (step_haltAndParked h).imp_right ?_
  rintro ⟨haltRises, haltFalls, parkedFalls, parkedRises⟩
  exact ⟨haltRises, haltFalls, parkedFalls, parkedRises⟩

end Sys2Proof.Machine
end

section
/-! The state after reset (10_state.md R50, R51) and the input events of the host. -/

namespace Sys2Proof.Machine

/-- Settles O52: memory is empty, the chip is as after its own reset, and no call is in progress or queued. -/
theorem resetStateIsWellFormed : Obligations.ResetStateIsWellFormed := ⟨rfl, rfl, rfl, rfl, rfl⟩

/-- A word read from two backed cells, high byte first, changes nothing (20_memory.md R66, R68). -/
theorem read16_backed (s : State) (a : Word) (high : backed s.cfg a = true) (low : backed s.cfg (a + 1) = true) :
    read16 s a = (join (memGet s.mem a.toNat) (memGet s.mem (a + 1).toNat), s) := by
  simp only [read16, read8_backed s a high, read8_backed s (a + 1) low]

/-- Settles O53: the decided map is valid, and its reset vector is two unwritten cells of the read-only region. -/
theorem resetStateIsTheResetSequence : Obligations.ResetStateIsTheResetSequence := by
  have valid : regionsValid decidedParams.regions = true := by decide
  refine ⟨if_pos valid, ?_⟩
  simp only [resetSequence]
  rw [read16_backed _ _ (by decide) (by decide)]
  rfl

/-- A step in which the host raises an input event, the oldest of its queued calls (60_exceptions.md R326, R350). -/
theorem step_signal {s : State} {e : Signal} {rest : List HostCall} (idle : s.call = none)
    (queued : s.calls = .signal e :: rest) : step s = .next (applySignal e (s.setCalls rest)) := by
  simp only [step, hostTurn, idle, queued, hostCall]

/-- Settles O44: a queued event is applied by the step, and `applySignal` says of each event what it changes. -/
theorem hostSignalsSetTheirLatchOnly : Obligations.HostSignalsSetTheirLatchOnly :=
  ⟨fun _ _ _ _ idle => ⟨step_signal idle, step_signal idle, step_signal idle, step_signal idle, step_signal idle,
    step_signal idle, step_signal idle, step_signal idle, fun _ => step_signal idle, step_signal idle, step_signal idle,
    fun _ => step_signal idle⟩, applySignals_eq_foldl⟩

end Sys2Proof.Machine
end

section
/-! Signed overflow of 8-bit additions and subtractions (10_state.md R29). -/

namespace Sys2Proof.Machine

/-- Bit 7 of a byte as a bound on its unsigned value. -/
theorem byte_msb_eq (b : Byte) : b.msb = decide (128 ≤ b.toNat) := BitVec.msb_eq_decide b

/-- The signed value of a byte from its unsigned value. -/
theorem byte_toInt_eq (b : Byte) : b.toInt = if b.toNat < 128 then (b.toNat : Int) else b.toNat - 256 := by
  rw [BitVec.toInt_eq_toNat_cond]
  split <;> split <;> omega

/-- V after an addition (41_arithmetic.md R171). -/
theorem add8_v_iff (a m : Byte) (cin : Bool) (f : Flags) : (add8 a m cin f).2.v = true ↔
    ¬ (-128 ≤ a.toInt + m.toInt + cin.toNat ∧ a.toInt + m.toInt + cin.toNat ≤ 127) := by
  have ha := a.isLt
  have hm := m.isLt
  have hc : cin.toNat ≤ 1 := Bool.toNat_le cin
  simp only [add8, byte_msb_eq, byte_toInt_eq, BitVec.toNat_ofNat, Bool.and_eq_true, beq_iff_eq, bne_iff_ne, ne_eq,
    decide_eq_decide]
  omega

/-- V after a subtraction (R172). -/
theorem sub8_v_iff (a m : Byte) (bin : Bool) (f : Flags) : (sub8 a m bin f).2.v = true ↔
    ¬ (-128 ≤ a.toInt - m.toInt - bin.toNat ∧ a.toInt - m.toInt - bin.toNat ≤ 127) := by
  have ha := a.isLt
  have hm := m.isLt
  have hb : bin.toNat ≤ 1 := Bool.toNat_le bin
  simp only [sub8, byte_msb_eq, byte_toInt_eq, BitVec.toNat_ofInt, Bool.and_eq_true, bne_iff_ne, ne_eq,
    decide_eq_decide]
  omega

/-- Settles O18: bit 7 of each byte is a bound on its value, and the result is the sum or difference modulo 256. -/
theorem overflowFlagIsSignedOverflow : Obligations.OverflowFlagIsSignedOverflow :=
  fun a m c f => ⟨add8_v_iff a m c f, sub8_v_iff a m c f⟩

end Sys2Proof.Machine
end

section
/-! The register frame of every instruction (10_state.md R20 to R23, R38). -/

namespace Sys2Proof.Machine

open Sys2Proof.Spec

/-- From `s` to `t` only registers change that the rules name for `i`, and `parked` only if `i` is WAI. -/
structure RegisterFrame (i : Instr) (s t : State) : Prop where
  a : writesA i = false → t.a = s.a
  b : writesB i = false → t.b = s.b
  x : writesX i = false → t.x = s.x
  sp : writesSp i = false → t.sp = s.sp
  pc : writesPc i = false → t.pc = s.pc
  parked : i ≠ .wai → t.parked = s.parked

namespace RegisterFrame

variable {i : Instr} {s t : State}

theorem refl : RegisterFrame i s s :=
  ⟨fun _ => rfl, fun _ => rfl, fun _ => rfl, fun _ => rfl, fun _ => rfl, fun _ => rfl⟩

theorem read8 (h : RegisterFrame i s t) (addr : Word) : RegisterFrame i s (read8 t addr).2 := by
  rw [read8_frame]
  exact ⟨h.a, h.b, h.x, h.sp, h.pc, h.parked⟩

theorem write8 (h : RegisterFrame i s t) (addr : Word) (v : Byte) : RegisterFrame i s (write8 t addr v) := by
  rw [write8_frame]
  exact ⟨h.a, h.b, h.x, h.sp, h.pc, h.parked⟩

theorem setFlags (h : RegisterFrame i s t) (f : Flags) : RegisterFrame i s (t.setFlags f) :=
  ⟨h.a, h.b, h.x, h.sp, h.pc, h.parked⟩

theorem setFree (h : RegisterFrame i s t) (n : Nat) : RegisterFrame i s (t.setFree n) :=
  ⟨h.a, h.b, h.x, h.sp, h.pc, h.parked⟩

theorem setA (h : RegisterFrame i s t) (hi : writesA i = true) (v : Byte) : RegisterFrame i s (t.setA v) :=
  ⟨fun no => by simp [hi] at no, h.b, h.x, h.sp, h.pc, h.parked⟩

theorem setB (h : RegisterFrame i s t) (hi : writesB i = true) (v : Byte) : RegisterFrame i s (t.setB v) :=
  ⟨h.a, fun no => by simp [hi] at no, h.x, h.sp, h.pc, h.parked⟩

theorem setX (h : RegisterFrame i s t) (hi : writesX i = true) (w : Word) : RegisterFrame i s (t.setX w) :=
  ⟨h.a, h.b, fun no => by simp [hi] at no, h.sp, h.pc, h.parked⟩

theorem setSp (h : RegisterFrame i s t) (hi : writesSp i = true) (w : Word) : RegisterFrame i s (t.setSp w) :=
  ⟨h.a, h.b, h.x, fun no => by simp [hi] at no, h.pc, h.parked⟩

theorem setPc (h : RegisterFrame i s t) (hi : writesPc i = true) (w : Word) : RegisterFrame i s (t.setPc w) :=
  ⟨h.a, h.b, h.x, h.sp, fun no => by simp [hi] at no, h.parked⟩

theorem setParked (h : RegisterFrame .wai s t) (v : Bool) : RegisterFrame .wai s (t.setParked v) :=
  ⟨h.a, h.b, h.x, h.sp, h.pc, fun no => absurd rfl no⟩

theorem read16 (h : RegisterFrame i s t) (addr : Word) : RegisterFrame i s (read16 t addr).2 :=
  (h.read8 addr).read8 (addr + 1)

theorem write16 (h : RegisterFrame i s t) (addr w : Word) : RegisterFrame i s (write16 t addr w) :=
  (h.write8 addr (hi8 w)).write8 (addr + 1) (lo8 w)

theorem operand8 (h : RegisterFrame i s t) (o : Src8) : RegisterFrame i s (operand8 t o).2 := by
  cases o with
  | imm v => exact h
  | dir addr | idx off | ext addr => exact h.read8 _

theorem operand16 (h : RegisterFrame i s t) (o : Src16) : RegisterFrame i s (operand16 t o).2 := by
  cases o with
  | imm w => exact h
  | dir addr | idx off | ext addr => exact h.read16 _

theorem operandAdx (h : RegisterFrame i s t) (o : AdxSrc) : RegisterFrame i s (operandAdx t o).2 := by
  cases o with
  | imm v => exact h
  | ext addr => exact h.read16 _

theorem branchIf (h : RegisterFrame i s t) (hi : writesPc i = true) (cond : Bool) (rel : Byte) :
    RegisterFrame i s (branchIf t cond rel) := by
  unfold Machine.branchIf
  split
  · exact h.setPc hi _
  · exact h

theorem push8 (h : RegisterFrame i s t) (hi : writesSp i = true) (v : Byte) : RegisterFrame i s (push8 t v) :=
  (h.write8 t.sp v).setSp hi _

theorem pull8 (h : RegisterFrame i s t) (hi : writesSp i = true) : RegisterFrame i s (pull8 t).2 :=
  (h.setSp hi (t.sp + 1)).read8 _

theorem push16 (h : RegisterFrame i s t) (hi : writesSp i = true) (w : Word) : RegisterFrame i s (push16 t w) :=
  (h.push8 hi (lo8 w)).push8 hi (hi8 w)

theorem pull16 (h : RegisterFrame i s t) (hi : writesSp i = true) : RegisterFrame i s (pull16 t).2 :=
  (h.pull8 hi).pull8 hi

theorem pushAll (h : RegisterFrame i s t) (hi : writesSp i = true) : RegisterFrame i s (pushAll t) :=
  ((((h.push16 hi t.pc).push16 hi t.x).push8 hi t.a).push8 hi t.b).push8 hi t.flags.pack

/-- Taking an interrupt: SP by the frame, PC by the vector. -/
theorem enterInterrupt (h : RegisterFrame i s t) (hsp : writesSp i = true) (hpc : writesPc i = true)
    (push mask : Bool) (vector : Word) : RegisterFrame i s (enterInterrupt t push mask vector) := by
  have pushed : RegisterFrame i s (if push then Machine.pushAll t else t) := by
    split
    · exact h.pushAll hsp
    · exact h
  cases mask
  · exact (pushed.read16 vector).setPc hpc _
  · exact ((pushed.setFlags _).read16 vector).setPc hpc _

/-- RTI alone writes A, B, X, SP and PC; it leaves `parked`. -/
theorem pullAll (h : RegisterFrame .rti s t) : RegisterFrame .rti s (pullAll t) where
  a := nofun
  b := nofun
  x := nofun
  sp := nofun
  pc := nofun
  parked _ := by
    have pulled : (Machine.pullAll t).parked = t.parked := by simp [Machine.pullAll]
    exact pulled.trans (h.parked nofun)

end RegisterFrame

/-- Every instruction stays within its register frame. -/
theorem exec_registerFrame (i : Instr) (s : State) : ∃ t, exec i s = .next t ∧ RegisterFrame i s t := by
  have h : RegisterFrame i s s := .refl
  cases i with
  | ldaa o | adda o | adca o | suba o | sbca o | anda o | oraa o | eora o =>
    exact ⟨_, rfl, ((h.operand8 o).setA rfl _).setFlags _⟩
  | ldab o | addb o | adcb o | subb o | sbcb o | andb o | orab o | eorb o =>
    exact ⟨_, rfl, ((h.operand8 o).setB rfl _).setFlags _⟩
  | cmpa o | cmpb o | bita o | bitb o => exact ⟨_, rfl, (h.operand8 o).setFlags _⟩
  | ldx o => exact ⟨_, rfl, ((h.operand16 o).setX rfl _).setFlags _⟩
  | lds o => exact ⟨_, rfl, ((h.operand16 o).setSp rfl _).setFlags _⟩
  | cpx o => exact ⟨_, rfl, (h.operand16 o).setFlags _⟩
  | adx o => exact ⟨_, rfl, ((h.operandAdx o).setX rfl _).setFlags _⟩
  | staa d | stab d | clr d => exact ⟨_, rfl, (h.write8 _ _).setFlags _⟩
  | stx d | sts d => exact ⟨_, rfl, (h.write16 _ _).setFlags _⟩
  | neg m | inc m | dec m | com m | asl m | asr m | lsr m | rol m | ror m =>
    exact ⟨_, rfl, ((h.read8 _).write8 _ _).setFlags _⟩
  | nim imm off | oim imm off | xim imm off => exact ⟨_, rfl, ((h.read8 _).write8 _ _).setFlags _⟩
  | tst m | tmm m off => exact ⟨_, rfl, (h.read8 _).setFlags _⟩
  | tba | clra | aba | sba | nega | inca | deca | coma | asla | asra | lsra | rola | rora =>
    exact ⟨_, rfl, (h.setA rfl _).setFlags _⟩
  | tab | clrb | negb | incb | decb | comb | aslb | asrb | lsrb | rolb | rorb =>
    exact ⟨_, rfl, (h.setB rfl _).setFlags _⟩
  | daa => exact ⟨_, rfl, ((h.setA rfl _).setFlags _).setFree _⟩
  | tpa => exact ⟨_, rfl, h.setA rfl _⟩
  | inx | dex => exact ⟨_, rfl, (h.setX rfl _).setFlags _⟩
  | tsx => exact ⟨_, rfl, h.setX rfl _⟩
  | txs | ins | des => exact ⟨_, rfl, h.setSp rfl _⟩
  | cba | tsta | tstb | clc | sec | clv | sev | cli | sei | tap => exact ⟨_, rfl, h.setFlags _⟩
  | psha | pshb => exact ⟨_, rfl, h.push8 rfl _⟩
  | pula => exact ⟨_, rfl, (h.pull8 rfl).setA rfl _⟩
  | pulb => exact ⟨_, rfl, (h.pull8 rfl).setB rfl _⟩
  | bra rel | bhi rel | bls rel | bcc rel | bcs rel | bne rel | beq rel | bvc rel | bvs rel | bpl rel | bmi rel
  | bge rel | blt rel | bgt rel | ble rel => exact ⟨_, rfl, h.branchIf rfl _ rel⟩
  | jmp m => exact ⟨_, rfl, h.setPc rfl _⟩
  | bsr d | jsr d => exact ⟨_, rfl, (h.push16 rfl _).setPc rfl _⟩
  | rts => exact ⟨_, rfl, (h.pull16 rfl).setPc rfl _⟩
  | swi => exact ⟨_, rfl, h.enterInterrupt rfl rfl true true _⟩
  | rti => exact ⟨_, rfl, h.pullAll⟩
  | wai => exact ⟨_, rfl, (h.pushAll rfl).setParked _⟩
  | nop | unimpl op => exact ⟨_, rfl, h⟩

/-- Settles O36: the register frame, field by field. -/
theorem instructionsWriteOnlyTheirRegisters : Obligations.InstructionsWriteOnlyTheirRegisters := by
  intro i s t h
  obtain ⟨u, hu, frame⟩ := exec_registerFrame i s
  cases h.symm.trans hu
  exact ⟨frame.a, frame.b, frame.x, frame.sp, frame.pc, frame.parked⟩

end Sys2Proof.Machine
end

section
/-! The flag frame of every instruction (10_state.md R24 to R26, R30). -/

namespace Sys2Proof.Machine

open Sys2Proof.Spec

/-- From the flags `f` to `g` only H, I and C change that the rules list for `i`, and nothing where they list no flag. -/
structure FlagFrame (i : Instr) (f g : Flags) : Prop where
  hFlag : writesH i = false → g.h = f.h
  iFlag : writesI i = false → g.i = f.i
  cFlag : writesC i = false → g.c = f.c
  all : writesNoFlag i = true → g = f

namespace FlagFrame

variable {i : Instr} {f g : Flags}

/-- No flag changes. -/
theorem of_eq (all : g = f) : FlagFrame i f g := all ▸ ⟨fun _ => rfl, fun _ => rfl, fun _ => rfl, fun _ => rfl⟩

/-- N, Z and V may change. -/
theorem of_nzv (some : writesNoFlag i = false) (h : g.h = f.h) (keptI : g.i = f.i) (c : g.c = f.c) : FlagFrame i f g :=
  ⟨fun _ => h, fun _ => keptI, fun _ => c, fun no => by simp [some] at no⟩

/-- N, Z, V and C may change. -/
theorem of_nzvc (some : writesNoFlag i = false) (hc : writesC i = true) (h : g.h = f.h) (keptI : g.i = f.i) :
    FlagFrame i f g :=
  ⟨fun _ => h, fun _ => keptI, fun no => by simp [hc] at no, fun no => by simp [some] at no⟩

/-- All but I may change. -/
theorem of_hnzvc (some : writesNoFlag i = false) (hh : writesH i = true) (hc : writesC i = true) (keptI : g.i = f.i) :
    FlagFrame i f g :=
  ⟨fun no => by simp [hh] at no, fun _ => keptI, fun no => by simp [hc] at no, fun no => by simp [some] at no⟩

/-- I alone may change. -/
theorem of_i (some : writesNoFlag i = false) (hi : writesI i = true) (h : g.h = f.h) (c : g.c = f.c) :
    FlagFrame i f g :=
  ⟨fun _ => h, fun no => by simp [hi] at no, fun _ => c, fun no => by simp [some] at no⟩

/-- All flags may change. -/
theorem of_any (some : writesNoFlag i = false) (hh : writesH i = true) (hi : writesI i = true) (hc : writesC i = true) :
    FlagFrame i f g :=
  ⟨fun no => by simp [hh] at no, fun no => by simp [hi] at no, fun no => by simp [hc] at no,
    fun no => by simp [some] at no⟩

end FlagFrame

/-- A branch leaves the flags (43_control_transfer.md R240). -/
theorem branchIf_flags (s : State) (cond : Bool) (rel : Byte) : (branchIf s cond rel).flags = s.flags := by
  unfold branchIf
  split <;> rfl

/-- A call leaves the flags (R256, R258). -/
theorem callTo_flags (s : State) (target : Word) : (callTo s target).flags = s.flags := push16_flags s s.pc

/-- An interrupt taken with its mask sets I and leaves the other flags (44_system_flags_stack.md R295). -/
theorem enterInterrupt_masked_flags (s : State) (push : Bool) (vector : Word) :
    (enterInterrupt s push true vector).flags = { s.flags with i := true } := by
  cases push <;> simp [enterInterrupt]

/-- Every instruction stays within its flag frame. -/
theorem exec_flagFrame (i : Instr) (s : State) : ∃ t, exec i s = .next t ∧ FlagFrame i s.flags t.flags := by
  cases i with
  | adda o | addb o | adca o | adcb o | aba => exact ⟨_, rfl, .of_hnzvc rfl rfl rfl rfl⟩
  | suba o | subb o | sbca o | sbcb o | sba | cmpa o | cmpb o | cba | nega | negb | neg m | daa | clra | clrb | clr m
  | tsta | tstb | tst m | coma | comb | com m | asla | aslb | asl m | asra | asrb | asr m | lsra | lsrb | lsr m
  | rola | rolb | rol m | rora | rorb | ror m | adx o | clc | sec => exact ⟨_, rfl, .of_nzvc rfl rfl rfl rfl⟩
  | ldaa o | ldab o | staa d | stab d | ldx o | lds o | stx d | sts d | tab | tba | inca | incb | inc m | deca | decb
  | dec m | inx | dex | cpx o | anda o | andb o | oraa o | orab o | eora o | eorb o | bita o | bitb o | clv | sev =>
    exact ⟨_, rfl, .of_nzv rfl rfl rfl rfl⟩
  | nim imm off => exact ⟨_, rfl, .of_nzv rfl (nimFlags_h _ _ _) (nimFlags_i _ _ _) (nimFlags_c _ _ _)⟩
  | oim imm off => exact ⟨_, rfl, .of_nzv rfl (oimFlags_h _ _ _) (oimFlags_i _ _ _) (oimFlags_c _ _ _)⟩
  | xim imm off => exact ⟨_, rfl, .of_nzv rfl (ximFlags_h _ _ _) (ximFlags_i _ _ _) (ximFlags_c _ _ _)⟩
  | tmm imm off => exact ⟨_, rfl, .of_nzv rfl (tmmFlags_h _ _ _ _) (tmmFlags_i _ _ _ _) (tmmFlags_c _ _ _ _)⟩
  | cli | sei => exact ⟨_, rfl, .of_i rfl rfl rfl rfl⟩
  | swi =>
    have flags := enterInterrupt_masked_flags s true s.cfg.vecSwi
    exact ⟨_, rfl, .of_i rfl rfl (by rw [flags]) (by rw [flags])⟩
  | tap | rti => exact ⟨_, rfl, .of_any rfl rfl rfl rfl⟩
  | tsx | txs | ins | des | jmp m | nop | tpa | unimpl op => exact ⟨_, rfl, .of_eq rfl⟩
  | psha | pshb => exact ⟨_, rfl, .of_eq (push8_flags s _)⟩
  | pula | pulb => exact ⟨_, rfl, .of_eq (pull8_flags s)⟩
  | bra rel | bhi rel | bls rel | bcc rel | bcs rel | bne rel | beq rel | bvc rel | bvs rel | bpl rel | bmi rel
  | bge rel | blt rel | bgt rel | ble rel => exact ⟨_, rfl, .of_eq (branchIf_flags s _ rel)⟩
  | bsr d | jsr d => exact ⟨_, rfl, .of_eq (callTo_flags s _)⟩
  | rts => exact ⟨_, rfl, .of_eq (pull16_flags s)⟩
  | wai => exact ⟨_, rfl, .of_eq (((pushAll s).setParked_flags true).trans (pushAll_flags s))⟩

/-- Settles O37: the flag frame, flag by flag. -/
theorem instructionsWriteOnlyTheirFlags : Obligations.InstructionsWriteOnlyTheirFlags := by
  intro i s t h
  obtain ⟨u, hu, frame⟩ := exec_flagFrame i s
  cases h.symm.trans hu
  exact ⟨frame.hFlag, frame.iFlag, frame.cFlag, frame.all⟩

end Sys2Proof.Machine
end

section
/-! The import of a snapshot gives the memory it was taken from (10_state.md R54). -/

namespace Sys2Proof.Machine

/-- A byte above every listed address goes to the end of the list. -/
theorem memSet_above (m : List Host.Cell) (a : Nat) (v : Byte) (above : ∀ c ∈ m, c.1 < a) (written : v ≠ unwritten) :
    memSet m a v = m ++ [(a, v)] := by
  induction m with
  | nil => simp [memSet, memCell, written]
  | cons c m ih =>
    obtain ⟨hc, hm⟩ := List.forall_mem_cons.mp above
    simp only [memSet, if_neg (show ¬ a < c.1 by omega), if_neg (show ¬ a = c.1 by omega), ih hm, List.cons_append]

/-- The cells of a memory as a snapshot names them. -/
def snapshotCells (m : List Host.Cell) : List (Word × Byte) := m.map (fun c => (BitVec.ofNat 16 c.1, c.2))

theorem snapshotOf_cells (s : State) : (snapshotOf s).cells = snapshotCells s.mem := rfl

/-- Placing the cells of a canonical, backed memory, all above what is listed, lists them after it. -/
theorem placeCells_snapshotCells (m : List Host.Cell) (lo : Nat) (t : State) (wf : memWfFrom lo m = true)
    (cells : ∀ c ∈ m, backed t.cfg (BitVec.ofNat 16 c.1) = true) (below : ∀ c ∈ t.mem, c.1 < lo) :
    placeCells t (snapshotCells m) = t.setMem (t.mem ++ m) := by
  induction m generalizing lo t with
  | nil => simp [snapshotCells, placeCells, State.setMem]
  | cons c m ih =>
    simp only [memWfFrom, Bool.and_eq_true, decide_eq_true_eq, bne_iff_ne] at wf
    obtain ⟨⟨⟨low, high⟩, written⟩, rest⟩ := wf
    obtain ⟨hc, hm⟩ := List.forall_mem_cons.mp cells
    have address : (BitVec.ofNat 16 c.1).toNat = c.1 := Nat.mod_eq_of_lt high
    have placed : placeByte t (BitVec.ofNat 16 c.1) c.2 = t.setMem (t.mem ++ [c]) := by
      rw [placeByte, if_pos hc, address, memSet_above t.mem c.1 c.2 (fun d hd => (below d hd).trans_le low) written]
    have below' : ∀ d ∈ t.mem ++ [c], d.1 < c.1 + 1 := by
      intro d hd
      rcases List.mem_append.mp hd with hd | hd
      · have := below d hd
        omega
      · rw [List.mem_singleton.mp hd]
        omega
    calc placeCells (placeByte t (BitVec.ofNat 16 c.1) c.2) (snapshotCells m)
        = placeCells (t.setMem (t.mem ++ [c])) (snapshotCells m) := by rw [placed]
      _ = (t.setMem (t.mem ++ [c])).setMem ((t.mem ++ [c]) ++ m) := ih _ _ rest hm below'
      _ = t.setMem (t.mem ++ c :: m) := by rw [State.setMem_setMem, List.append_assoc, List.singleton_append]

/-- The chip with the registers of a snapshot is the chip it was taken from but for its lines and the log of its callbacks, if
the shift count is in range. -/
theorem importVia_snapshotOf (s : State) (w : Via) (count : s.via.countOk = true) :
    importVia (snapshotOf s) w = { s.via with
      ina := w.ina, inb := w.inb, cb2In := w.cb2In, cb2Out := w.cb2Out, portLog := w.portLog } := by
  have inRange : s.via.srCount % 9 = s.via.srCount := Nat.mod_eq_of_lt (Nat.lt_succ_of_le (of_decide_eq_true count))
  simp [importVia, snapshotOf, inRange]

/-- A step in which the host imports a snapshot, the oldest of its queued calls. -/
theorem step_importState {u : State} {p : Snapshot} {rest : List HostCall} (idle : u.call = none)
    (queued : u.calls = .importState p :: rest) : step u = .next (importSnapshot p (u.setCalls rest)) := by
  simp only [step, hostTurn, idle, queued, hostCall]

/-- Settles O47: the cells of the snapshot are placed in an emptied memory, in rising order, and give the memory again. -/
theorem snapshotRestoresTheState : Obligations.SnapshotRestoresTheState := by
  refine ⟨fun _ _ _ => step_importState, fun s u wf cells count cfg => ?_⟩
  have backedCells : ∀ c ∈ s.mem, backed u.cfg (BitVec.ofNat 16 c.1) = true := by
    simpa [State.cellsBacked, cfg] using cells
  have memory : importSnapshot (snapshotOf s) u = (importRegisters (snapshotOf s) u).setMem s.mem := by
    rw [importSnapshot, snapshotOf_cells]
    exact placeCells_snapshotCells s.mem 0 (importRegisters (snapshotOf s) u) wf backedCells nofun
  rw [memory]
  simp only [importRegisters, importVia_snapshotOf s u.via count]
  simp only [snapshotOf, State.setMem, cfg]

end Sys2Proof.Machine
end

section
/-! Halves and joins of words, in the numbers of 00_scope.md R16. -/

namespace Sys2Proof

theorem hi8_eq_ofNat (w : Word) : hi8 w = BitVec.ofNat 8 (w.toNat / 256) := by
  apply BitVec.eq_of_toNat_eq
  have := w.isLt
  rw [hi8_toNat, BitVec.toNat_ofNat]
  omega

theorem lo8_eq_ofNat (w : Word) : lo8 w = BitVec.ofNat 8 w.toNat := by
  apply BitVec.eq_of_toNat_eq
  rw [lo8_toNat, BitVec.toNat_ofNat]

theorem join_eq_ofNat (h l : Byte) : join h l = BitVec.ofNat 16 (256 * h.toNat + l.toNat) := by
  rw [← join_toNat, BitVec.ofNat_toNat, BitVec.setWidth_eq]

theorem join_hi8_lo8 (w : Word) : join (hi8 w) (lo8 w) = w := by
  apply BitVec.eq_of_toNat_eq
  rw [join_toNat, hi8_toNat, lo8_toNat, Nat.div_add_mod]

end Sys2Proof
end

section
/-! Read-write cells: what a write stores in them, and what it leaves everywhere else (20_memory.md R64, R67). -/

namespace Sys2Proof.Machine

open Sys2Proof.Spec

/-- The configuration alone says which addresses are read-write. -/
theorem writable_congr {s t : State} (cfg : t.cfg = s.cfg) (a : Word) : Writable t a ↔ Writable s a := by
  simp only [Writable, cfg]

/-- A region with no device behind it has backing bytes. -/
theorem backed_of_mode {s : State} {a : Word} {r : Region} (owner : ownerOf s.cfg.regions a = some r)
    (mode : r.mode = .readWrite ∨ r.mode = .readOnly) : backed s.cfg a = true := by
  rcases mode with mode | mode <;> simp [backed, owner, mode]

/-- A read-write cell has a backing byte. -/
theorem backed_of_writable {s : State} {a : Word} (h : Writable s a) : backed s.cfg a = true := by
  obtain ⟨r, owner, mode⟩ := h
  exact backed_of_mode owner (.inl mode)

/-- A write to a read-write cell replaces its byte and changes nothing else (R67). -/
theorem write8_of_writable {s : State} {a : Word} (h : Writable s a) (v : Byte) :
    write8 s a v = s.setMem (memSet s.mem a.toNat v) := by
  obtain ⟨r, owner, mode⟩ := h
  exact write8_readWrite s a v r owner mode

/-- A write to any other address stores nothing (R64). -/
theorem write8_mem_of_not_writable {s : State} {a : Word} (h : ¬ Writable s a) (v : Byte) :
    (write8 s a v).mem = s.mem := by
  unfold write8
  split
  · rfl
  · next r owner =>
    split
    · next mode => exact absurd ⟨r, owner, mode⟩ h
    all_goals rfl

/-- A write leaves every other byte, whatever owns the address. -/
theorem memGet_write8_other (s : State) (a : Word) (v : Byte) {b : Nat} (other : a.toNat ≠ b) :
    memGet (write8 s a v).mem b = memGet s.mem b := by
  rcases write8_mem s a v with ⟨stored, -⟩ | same
  · rw [stored, memGet_memSet_other s.mem a.toNat b v other]
  · rw [same]

/-- What every byte reads as after a write to a read-write cell. -/
theorem memGet_write8_of_writable {s : State} {a : Word} (wf : Memory.wf s.mem = true) (h : Writable s a) (v : Byte)
    (b : Nat) : memGet (write8 s a v).mem b = if b = a.toNat then v else memGet s.mem b := by
  split
  · next same => rw [write8_of_writable h, same]; exact memGet_memSet_same s.mem a.toNat v wf
  · next other => exact memGet_write8_other s a v (Ne.symm other)

end Sys2Proof.Machine
end

section
/-! The memory frame of every instruction (20_memory.md R64, R67, R71). -/

namespace Sys2Proof.Machine

open Sys2Proof.Spec

/-- From `s` to `t` bytes are stored at addresses of `ws` only, and in read-write cells only; and if `ws` is empty, devices
outside the core are called only to read. -/
structure StoreFrame (ws : List Word) (s t : State) : Prop where
  cfg : t.cfg = s.cfg
  elsewhere : ∀ a : Nat, (∀ w ∈ ws, w.toNat ≠ a) → memGet t.mem a = memGet s.mem a
  notWritable : ∀ a : Word, ¬ Writable s a → memGet t.mem a.toNat = memGet s.mem a.toNat
  noStore : ws = [] → t.mem = s.mem ∧ OnlyReadsReported s t

namespace StoreFrame

variable {ws : List Word} {s t : State}

theorem refl : StoreFrame ws s s := ⟨rfl, fun _ _ => rfl, fun _ _ => rfl, fun _ => ⟨rfl, .of_outs_eq rfl⟩⟩

/-- An update of what belongs to the CPU alone stores nothing. -/
theorem update (h : StoreFrame ws s t) {a b : Byte} {x sp pc : Word} {flags : Flags} {parked : Bool} {free : Nat} :
    StoreFrame ws s
      { t with a := a, b := b, x := x, sp := sp, pc := pc, flags := flags, parked := parked, free := free } :=
  ⟨h.cfg, h.elsewhere, h.notWritable, h.noStore⟩

theorem setFlags (h : StoreFrame ws s t) (f : Flags) : StoreFrame ws s (t.setFlags f) := h.update

theorem setPc (h : StoreFrame ws s t) (w : Word) : StoreFrame ws s (t.setPc w) := h.update

theorem read8 (h : StoreFrame ws s t) (addr : Word) : StoreFrame ws s (read8 t addr).2 where
  cfg := (read8_cfg t addr).trans h.cfg
  elsewhere := by simpa using h.elsewhere
  notWritable := by simpa using h.notWritable
  noStore empty := by
    obtain ⟨mem, reports⟩ := h.noStore empty
    exact ⟨(read8_mem t addr).trans mem, reports.trans (read8_reports t addr)⟩

/-- The one operation that stores: at its address, if that is read-write. -/
theorem write8 (h : StoreFrame ws s t) {addr : Word} (stored : addr ∈ ws) (v : Byte) :
    StoreFrame ws s (write8 t addr v) where
  cfg := (write8_cfg t addr v).trans h.cfg
  elsewhere a outside := (memGet_write8_other t addr v (outside addr stored)).trans (h.elsewhere a outside)
  notWritable a no := by
    rw [← h.notWritable a no]
    by_cases same : addr = a
    · rw [write8_mem_of_not_writable (mt (writable_congr h.cfg addr).mp (same ▸ no))]
    · exact memGet_write8_other t addr v (mt BitVec.eq_of_toNat_eq same)
  noStore empty := absurd stored (empty ▸ List.not_mem_nil)

theorem read16 (h : StoreFrame ws s t) (addr : Word) : StoreFrame ws s (read16 t addr).2 :=
  (h.read8 addr).read8 (addr + 1)

theorem write16 (h : StoreFrame ws s t) {addr : Word} (high : addr ∈ ws) (low : addr + 1 ∈ ws) (w : Word) :
    StoreFrame ws s (write16 t addr w) :=
  (h.write8 high (hi8 w)).write8 low (lo8 w)

theorem operand8 (h : StoreFrame ws s t) (o : Src8) : StoreFrame ws s (operand8 t o).2 := by
  cases o with
  | imm v => exact h
  | dir addr | idx off | ext addr => exact h.read8 _

theorem operand16 (h : StoreFrame ws s t) (o : Src16) : StoreFrame ws s (operand16 t o).2 := by
  cases o with
  | imm w => exact h
  | dir addr | idx off | ext addr => exact h.read16 _

theorem operandAdx (h : StoreFrame ws s t) (o : AdxSrc) : StoreFrame ws s (operandAdx t o).2 := by
  cases o with
  | imm v => exact h
  | ext addr => exact h.read16 _

theorem branchIf (h : StoreFrame ws s t) (cond : Bool) (rel : Byte) : StoreFrame ws s (branchIf t cond rel) := by
  unfold Machine.branchIf
  split
  · exact h.update
  · exact h

theorem pull8 (h : StoreFrame ws s t) : StoreFrame ws s (pull8 t).2 :=
  StoreFrame.read8 (t := t.setSp (t.sp + 1)) h.update _

theorem pull16 (h : StoreFrame ws s t) : StoreFrame ws s (pull16 t).2 := h.pull8.pull8

/-- The registers that a pulled frame restores. -/
theorem restore (h : StoreFrame ws s t) (flags : Flags) (b a : Byte) (x pc : Word) :
    StoreFrame ws s (((((t.setFlags flags).setB b).setA a).setX x).setPc pc) := h.update

theorem pullAll (h : StoreFrame ws s t) : StoreFrame ws s (pullAll t) :=
  h.pull8.pull8.pull8.pull16.pull16.restore _ _ _ _ _

theorem push8 (h : StoreFrame ws s t) (stored : t.sp ∈ ws) (v : Byte) : StoreFrame ws s (push8 t v) :=
  (h.write8 stored v).update

theorem push16 (h : StoreFrame ws s t) (low : t.sp ∈ ws) (high : t.sp - 1 ∈ ws) (w : Word) :
    StoreFrame ws s (push16 t w) :=
  (h.push8 low (lo8 w)).push8 ((push8_sp t (lo8 w)).symm ▸ high) (hi8 w)

/-- The seven pushes of a register frame store at the addresses of the frame (44_system_flags_stack.md R288). -/
theorem pushAll (h : StoreFrame ws s t) (frame : ∀ a ∈ frameAddresses t, a ∈ ws) : StoreFrame ws s (pushAll t) := by
  simp only [frameAddresses, List.forall_mem_cons] at frame
  obtain ⟨pcLow, pcHigh, xLow, xHigh, a, b, cc, -⟩ := frame
  have pc := h.push16 pcLow pcHigh t.pc
  have x := pc.push16 (by simpa [BitVec.sub_sub] using xLow) (by simpa [BitVec.sub_sub] using xHigh) t.x
  have acc := (x.push8 (by simpa [BitVec.sub_sub] using a) t.a).push8 (by simpa [BitVec.sub_sub] using b) t.b
  exact acc.push8 (by simpa [BitVec.sub_sub] using cc) t.flags.pack

/-- Taking an interrupt with its frame stores the frame and no more (44_system_flags_stack.md R295). -/
theorem enterInterrupt (h : StoreFrame ws s t) (frame : ∀ a ∈ frameAddresses t, a ∈ ws) (vector : Word) :
    StoreFrame ws s (enterInterrupt t true true vector) := by
  simp only [Machine.enterInterrupt, if_true]
  exact (((h.pushAll frame).setFlags _).read16 vector).setPc _

end StoreFrame

/-- Every instruction stores only where it says. -/
theorem exec_storeFrame (i : Instr) (s : State) : ∃ t, exec i s = .next t ∧ StoreFrame (storedTo s i) s t := by
  have h : StoreFrame (storedTo s i) s s := .refl
  cases i with
  | ldaa o | ldab o | adda o | addb o | adca o | adcb o | suba o | subb o | sbca o | sbcb o | cmpa o | cmpb o
  | anda o | andb o | oraa o | orab o | eora o | eorb o | bita o | bitb o => exact ⟨_, rfl, (h.operand8 o).update⟩
  | ldx o | lds o | cpx o => exact ⟨_, rfl, (h.operand16 o).update⟩
  | adx o => exact ⟨_, rfl, (h.operandAdx o).update⟩
  | tst m | tmm m off => exact ⟨_, rfl, (h.read8 _).update⟩
  | pula | pulb => exact ⟨_, rfl, h.pull8.update⟩
  | rts => exact ⟨_, rfl, h.pull16.update⟩
  | rti => exact ⟨_, rfl, h.pullAll⟩
  | staa d | stab d | clr d => exact ⟨_, rfl, (h.write8 (.head _) _).update⟩
  | stx d | sts d => exact ⟨_, rfl, (h.write16 (.head _) (.tail _ (.head _)) _).update⟩
  | neg m | inc m | dec m | com m | asl m | asr m | lsr m | rol m | ror m =>
    exact ⟨_, rfl, ((h.read8 _).write8 (.head _) _).update⟩
  | nim imm off | oim imm off | xim imm off => exact ⟨_, rfl, ((h.read8 _).write8 (.head _) _).update⟩
  | psha | pshb => exact ⟨_, rfl, h.push8 (.head _) _⟩
  | bsr d | jsr d => exact ⟨_, rfl, (h.push16 (.head _) (.tail _ (.head _)) _).update⟩
  | swi => exact ⟨_, rfl, h.enterInterrupt (fun _ ha => ha) _⟩
  | wai => exact ⟨_, rfl, (h.pushAll (fun _ ha => ha)).update⟩
  | bra rel | bhi rel | bls rel | bcc rel | bcs rel | bne rel | beq rel | bvc rel | bvs rel | bpl rel | bmi rel
  | bge rel | blt rel | bgt rel | ble rel => exact ⟨_, rfl, h.branchIf _ rel⟩
  | tab | tba | tsx | txs | clra | clrb | aba | sba | cba | daa | nega | negb | inca | incb | deca | decb | tsta | tstb
  | inx | dex | ins | des | coma | comb | asla | aslb | asra | asrb | lsra | lsrb | rola | rolb | rora | rorb | jmp m
  | clc | sec | clv | sev | cli | sei | tap | tpa => exact ⟨_, rfl, h.update⟩
  | nop | unimpl op => exact ⟨_, rfl, h⟩

/-- Settles O35: the memory frame, part by part. -/
theorem instructionsStoreOnlyWhereTheySay : Obligations.InstructionsStoreOnlyWhereTheySay := by
  intro i s t h
  obtain ⟨u, hu, frame⟩ := exec_storeFrame i s
  cases h.symm.trans hu
  exact ⟨frame.elsewhere, frame.notWritable, frame.noStore⟩

end Sys2Proof.Machine
end

section
/-! The memory primitives by the region that owns the address (20_memory.md R64, R66 to R70; 60_exceptions.md R350). -/

namespace Sys2Proof.Machine

open Sys2Proof.Spec

/-- A write to an unmapped address does nothing (R67). -/
theorem write8_unmapped (s : State) (a : Word) (v : Byte) (h : ownerOf s.cfg.regions a = none) : write8 s a v = s := by
  simp [write8, h]

/-- A write to a read-only region does nothing (R64, R67). -/
theorem write8_readOnly {s : State} {a : Word} {r : Region} (owner : ownerOf s.cfg.regions a = some r)
    (mode : r.mode = .readOnly) (v : Byte) : write8 s a v = s := by
  simp [write8, owner, mode]

/-- Reducing an address offset modulo 16 first selects the same register (60_exceptions.md R350). -/
theorem registerAt_eq_chipRegister (r : Region) (a : Word) : registerAt r a = chipRegister r a := by
  apply BitVec.eq_of_toNat_eq
  simp [registerAt, chipRegister]

/-- A read of an address of the chip is a read of the register it selects, with its effect. -/
theorem read8_chip {s : State} {a : Word} {r : Region} (owner : ownerOf s.cfg.regions a = some r)
    (mode : r.mode = .deviceBacked (some .chip)) : read8 s a = chipRead s (registerAt r a) := by
  simp [read8, owner, mode, registerAt_eq_chipRegister]

/-- A write to an address of the chip is a write of the register it selects. -/
theorem write8_chip {s : State} {a : Word} {r : Region} (owner : ownerOf s.cfg.regions a = some r)
    (mode : r.mode = .deviceBacked (some .chip)) (v : Byte) : write8 s a v = chipWrite s (registerAt r a) v := by
  simp [write8, owner, mode, registerAt_eq_chipRegister]

/-- A read of a device outside the core is a call of its handler (R64, log 7). -/
theorem read8_external {s : State} {a : Word} {r : Region} {id : Nat} (owner : ownerOf s.cfg.regions a = some r)
    (mode : r.mode = .deviceBacked (some (.external id))) : read8 s a = externalRead s id a := by
  simp [read8, owner, mode]

/-- A write to a device outside the core is a call of its handler (R64, log 7). -/
theorem write8_external {s : State} {a : Word} {r : Region} {id : Nat} (owner : ownerOf s.cfg.regions a = some r)
    (mode : r.mode = .deviceBacked (some (.external id))) (v : Byte) : write8 s a v = externalWrite s id a v := by
  simp [write8, owner, mode]

/-- Settles O6: one law of `read8` and one of `write8` for each kind of owner. -/
theorem byteAccessByRegion : Obligations.ByteAccessByRegion := by
  intro s a v wf
  refine ⟨fun unmapped => ⟨read8_unmapped s a unmapped, write8_unmapped s a v unmapped⟩,
    fun r owner => ⟨?_, ?_, ?_, ?_, ?_⟩⟩
  · exact fun mode => read8_backed s a (backed_of_mode owner mode)
  · exact fun mode => write8_readOnly owner mode v
  · intro mode
    refine ⟨?_, memGet_write8_of_writable wf ⟨r, owner, mode⟩ v⟩
    rw [write8_of_writable ⟨r, owner, mode⟩ v]
    rfl
  · exact fun mode => ⟨read8_chip owner mode, write8_chip owner mode v⟩
  · exact fun id mode => ⟨⟨_, read8_external owner mode⟩, write8_external owner mode v⟩

/-- The bytes of a word written to two read-write cells: the more significant one at the lower address (R69, R70). -/
theorem memGet_write16_of_writable {s : State} {a : Word} (w : Word) (wf : Memory.wf s.mem = true) (high : Writable s a)
    (low : Writable s (a + 1)) : memGet (write16 s a w).mem a.toNat = hi8 w ∧
      memGet (write16 s a w).mem (a + 1).toNat = lo8 w := by
  have wf' : Memory.wf (write8 s a (hi8 w)).mem = true := (write8_kept s a (hi8 w)).wf wf
  have low' : Writable (write8 s a (hi8 w)) (a + 1) := (writable_congr (write8_cfg _ _ _) _).mpr low
  have apart : a.toNat ≠ (a + 1).toNat := by bv_omega
  simp only [write16, memGet_write8_of_writable wf' low', memGet_write8_of_writable wf high, if_pos, if_neg apart,
    and_self]

/-- Settles O7: the halves of a word as numbers, and two bytes stored side by side. -/
theorem wordsAreBigEndian : Obligations.WordsAreBigEndian := by
  refine ⟨fun w h l => ⟨hi8_eq_ofNat w, lo8_eq_ofNat w, join_eq_ofNat h l⟩, fun s a w => ⟨?_, rfl, join_eq_ofNat _ _⟩,
    fun s a w wf high low => ?_⟩
  · rw [← hi8_eq_ofNat, ← lo8_eq_ofNat]
    rfl
  · have kept : (write16 s a w).cfg = s.cfg := write16_cfg s a w
    have backedHigh := backed_of_writable ((writable_congr kept a).mpr high)
    have backedLow := backed_of_writable ((writable_congr kept (a + 1)).mpr low)
    obtain ⟨hi, lo⟩ := memGet_write16_of_writable w wf high low
    refine ⟨?_, ?_, ?_⟩
    · rw [read8_backed _ _ backedHigh, hi]
    · rw [read8_backed _ _ backedLow, lo]
    · rw [read16_backed _ _ backedHigh backedLow, hi, lo, join_hi8_lo8]

end Sys2Proof.Machine
end

section
/-! The check of the regions at construction, and the owner of an address where it passes (20_memory.md R61, R62). -/

namespace Sys2Proof

theorem Region.covers_iff (r : Region) (a : Nat) : r.covers a = true ↔ r.base ≤ a ∧ a < r.base + r.length := by
  simp [Region.covers]

theorem Region.valid_iff (r : Region) :
    r.valid = true ↔ 0 < r.length ∧ r.base + r.length ≤ 65536 ∧ r.mode ≠ .deviceBacked none := by
  simp [Region.valid, and_assoc]

theorem Region.disjoint_comm (r q : Region) : r.disjoint q = q.disjoint r := Bool.or_comm _ _

/-- The check of the regions is that of each region and of each pair. -/
theorem regionsValid_iff (rs : List Region) : regionsValid rs = true ↔
    rs.Pairwise (fun r q => r.disjoint q = true) ∧ ∀ r ∈ rs, r.valid = true := by
  induction rs with
  | nil => simp [regionsValid]
  | cons r rs ih =>
    simp only [regionsValid, Bool.and_eq_true, List.all_eq_true, ih, List.pairwise_cons, List.forall_mem_cons]
    tauto

/-- Two regions that are not empty are disjoint exactly if no address is in both: the larger base would be. -/
theorem Region.disjoint_iff {r q : Region} (hr : 0 < r.length) (hq : 0 < q.length) :
    r.disjoint q = true ↔ ∀ a : Nat, ¬ (r.covers a = true ∧ q.covers a = true) := by
  simp only [Region.disjoint, Bool.or_eq_true, decide_eq_true_eq, Region.covers_iff]
  constructor
  · intro apart a both
    omega
  · intro noneShared
    have := noneShared (max r.base q.base)
    omega

/-- In a list that passes the check, regions that cover the same address are the same region. -/
theorem eq_of_covers {rs : List Region} (valid : regionsValid rs = true) {r q : Region} (hr : r ∈ rs) (hq : q ∈ rs)
    {a : Nat} (inR : r.covers a = true) (inQ : q.covers a = true) : r = q := by
  obtain ⟨apart, each⟩ := (regionsValid_iff rs).mp valid
  have nonempty {r : Region} (h : r ∈ rs) : 0 < r.length := ((Region.valid_iff r).mp (each r h)).1
  have : Std.Symm (fun r q : Region => r.disjoint q = true) := ⟨fun r q h => (Region.disjoint_comm q r).trans h⟩
  by_contra different
  exact (Region.disjoint_iff (nonempty hr) (nonempty hq)).mp (apart.forall hr hq different) a ⟨inR, inQ⟩

namespace Machine

/-- The owner of an address is a listed region that covers it, in any list. -/
theorem mem_and_covers_of_ownerOf {rs : List Region} {a : Word} {r : Region} (owner : ownerOf rs a = some r) :
    r ∈ rs ∧ r.covers a.toNat = true :=
  ⟨List.mem_of_find?_eq_some owner, List.find?_some (p := fun q : Region => q.covers a.toNat) owner⟩

/-- An address that a listed region covers has an owner. -/
theorem exists_ownerOf {rs : List Region} {a : Word} {r : Region} (listed : r ∈ rs) (covers : r.covers a.toNat = true) :
    ∃ q, ownerOf rs a = some q :=
  Option.isSome_iff_exists.mp (List.find?_isSome.mpr ⟨r, listed, covers⟩)

/-- The owner of an address, in a list that passes the check, is the region of the list that covers it. -/
theorem ownerOf_eq_some_iff {rs : List Region} (valid : regionsValid rs = true) (a : Word) (r : Region) :
    ownerOf rs a = some r ↔ r ∈ rs ∧ r.covers a.toNat = true := by
  refine ⟨mem_and_covers_of_ownerOf, fun ⟨listed, covers⟩ => ?_⟩
  obtain ⟨q, owner⟩ := exists_ownerOf listed covers
  obtain ⟨listedQ, coversQ⟩ := mem_and_covers_of_ownerOf owner
  rw [owner, eq_of_covers valid listed listedQ covers coversQ]

/-- An address has no owner exactly if no listed region covers it, in any list. -/
theorem ownerOf_eq_none_iff (rs : List Region) (a : Word) :
    ownerOf rs a = none ↔ ∀ r ∈ rs, ¬ r.covers a.toNat = true := List.find?_eq_none

/-- Settles O8: `ownerOf` finds a region that covers the address, and no other one does. -/
theorem ownerIsTheCoveringRegion : Obligations.OwnerIsTheCoveringRegion := by
  intro rs a valid
  simp only [← Region.covers_iff]
  exact ⟨ownerOf_eq_some_iff valid a, ownerOf_eq_none_iff rs a⟩

/-- Construction fails exactly if the check of the regions does (R63). -/
theorem construct_fault_iff (p : Params) (image : List (Word × Byte)) :
    construct p image = .fault .configurationError ↔ ¬ regionsValid p.regions = true := by
  unfold construct
  split
  · next valid => simp [valid]
  · next invalid => simp [invalid]

/-- Settles O9: where no region is empty, the check of pairs says that no address is shared. -/
theorem constructionRefusesBadRegions : Obligations.ConstructionRefusesBadRegions := by
  intro p image
  rw [construct_fault_iff, regionsValid_iff, not_iff_not]
  simp only [Region.valid_iff]
  refine and_congr_left fun each => List.Pairwise.iff_of_mem fun {r q} hr hq => ?_
  obtain ⟨nonemptyR, -⟩ := each r hr
  obtain ⟨nonemptyQ, -⟩ := each q hq
  exact Region.disjoint_iff nonemptyR nonemptyQ

end Machine

end Sys2Proof
end

section
/-! The decoder and the encoder, each the inverse of the other (30_encoding.md R100 to R112). -/

namespace Sys2Proof

/-! ### Every opcode byte: its row of the grid -/

/-- A statement about every byte is one about each of 256 literals, at which the grid evaluates. -/
theorem byte_cases {P : Byte → Prop} (literal : ∀ n < 256, P (BitVec.ofNat 8 n)) (b : Byte) : P b := by
  simpa using literal b.toNat b.isLt

/-- Each row of the grid holds an instruction with that opcode byte. -/
theorem decodeGrid_opcode (op b1 b2 : Byte) : (decodeGrid op b1 b2).opcode = op := by
  induction op using byte_cases with
  | literal n hn => interval_cases n <;> rfl

/-- The extension stands at its six opcode bytes, and nowhere else (R112). -/
theorem decodeGrid_isExtension (op b1 b2 : Byte) : (decodeGrid op b1 b2).isExtension = extensionBytes.contains op := by
  induction op using byte_cases with
  | literal n hn => interval_cases n <;> rfl

/-- The operand bytes of a row are the first of those given, as many as the opcode byte alone says (R100, R101). -/
theorem decodeGrid_operandBytes (op b1 b2 : Byte) :
    (decodeGrid op b1 b2).operandBytes = [b1, b2].take (decodeGrid op 0 0).operandBytes.length := by
  unfold decodeGrid
  split
  · unfold decodeRow0; split <;> rfl
  · unfold decodeRow1; split <;> rfl
  · unfold decodeRow2; split <;> rfl
  · unfold decodeRow3; split <;> rfl
  · unfold decodeRow4; split <;> rfl
  · unfold decodeRow5; split <;> rfl
  · unfold decodeRow6; split <;> rfl
  · unfold decodeRow7; split <;> simp [Loc.bytes]
  · unfold decodeRow8; split <;> simp [Src8.bytes, Src16.bytes]
  · unfold decodeRow9; split <;> rfl
  · unfold decodeRowA; split <;> rfl
  · unfold decodeRowB; split <;> simp [Src8.bytes, Src16.bytes, Dst.bytes, Loc.bytes]
  · unfold decodeRowC; split <;> simp [Src8.bytes, Src16.bytes]
  · unfold decodeRowD; split <;> rfl
  · unfold decodeRowE; split <;> rfl
  · unfold decodeRowF; split <;> simp [Src8.bytes, Src16.bytes, Dst.bytes, AdxSrc.bytes]

/-- What the decode table holds stands for a row of it, with the extension and without (R108, R112). -/
theorem decodeOp_wellFormed (ext : Bool) (op b1 b2 : Byte) : (decodeOp ext op b1 b2).wellFormed ext = true := by
  induction op using byte_cases with
  | literal n hn => cases ext <;> interval_cases n <;> rfl

/-- The same through the decoder, where a byte that has lost its row asks for none. -/
theorem decodeOp_operandBytes (ext : Bool) (op b1 b2 : Byte) :
    (decodeOp ext op b1 b2).operandBytes = [b1, b2].take (opcodeLength ext op - 1) := by
  simp only [opcodeLength, decodeOp, decodeGrid_isExtension]
  split
  · rfl
  · exact decodeGrid_operandBytes op b1 b2

/-- The decoder keeps the opcode byte (R108). -/
theorem decodeOp_opcode (ext : Bool) (op b1 b2 : Byte) : (decodeOp ext op b1 b2).opcode = op := by
  unfold decodeOp
  split
  · rfl
  · exact decodeGrid_opcode op b1 b2

/-- Decoding loses nothing of the bytes it reads. -/
theorem encode_decodeOp (ext : Bool) (op b1 b2 : Byte) :
    encode (decodeOp ext op b1 b2) = op :: [b1, b2].take (opcodeLength ext op - 1) := by
  rw [encode, decodeOp_opcode, decodeOp_operandBytes]

/-- An opcode byte asks for one, two or three bytes, its own included (R100, R101). -/
theorem opcodeLength_cases (ext : Bool) (op : Byte) :
    opcodeLength ext op = 1 ∨ opcodeLength ext op = 2 ∨ opcodeLength ext op = 3 := by
  have h : opcodeLength ext op = (op :: [0, 0].take (opcodeLength ext op - 1)).length :=
    congrArg List.length (encode_decodeOp ext op 0 0)
  simp only [List.length_cons, List.length_take, List.length_nil] at h
  omega

/-- The opcode byte alone selects the length, whatever the operand bytes (R100). -/
theorem decodeOp_length (ext : Bool) (op b1 b2 : Byte) : (decodeOp ext op b1 b2).length = opcodeLength ext op := by
  rw [Instr.length, encode_decodeOp]
  rcases opcodeLength_cases ext op with h | h | h <;> rw [h] <;> rfl

/-! ### Every instruction: the row of its opcode byte -/

/-- An instruction that has a row is that row, filled in with its own operand bytes. -/
theorem decodeGrid_ownBytes (i : Instr) (hasRow : ∀ op, i ≠ .unimpl op) :
    decodeGrid i.opcode (i.operandBytes.getD 0 0) (i.operandBytes.getD 1 0) = i := by
  cases i with
  | unimpl op => exact absurd rfl (hasRow op)
  | ldaa o | ldab o | adda o | addb o | adca o | adcb o | suba o | subb o | sbca o | sbcb o | cmpa o | cmpb o
  | anda o | andb o | oraa o | orab o | eora o | eorb o | bita o | bitb o =>
    cases o with dsimp only [Instr.opcode, Src8.pick]
    | imm v | dir a | idx n => rfl
    | ext a =>
      conv_rhs => rw [← join_halves a]
      rfl
  | ldx o | lds o | cpx o =>
    cases o with dsimp only [Instr.opcode, Src16.pick]
    | dir a | idx n => rfl
    | imm a | ext a =>
      conv_rhs => rw [← join_halves a]
      rfl
  | staa d | stab d | stx d | sts d =>
    cases d with dsimp only [Instr.opcode, Dst.pick]
    | dir a | idx n => rfl
    | ext a =>
      conv_rhs => rw [← join_halves a]
      rfl
  | clr m | neg m | inc m | dec m | tst m | com m | asl m | asr m | lsr m | rol m | ror m | jmp m | jsr m =>
    cases m with dsimp only [Instr.opcode, Loc.pick]
    | idx n => rfl
    | ext a =>
      conv_rhs => rw [← join_halves a]
      rfl
  | adx o =>
    cases o with dsimp only [Instr.opcode, AdxSrc.pick]
    | imm v => rfl
    | ext a =>
      conv_rhs => rw [← join_halves a]
      rfl
  | bra r | bhi r | bls r | bcc r | bcs r | bne r | beq r | bvc r | bvs r | bpl r | bmi r | bge r | blt r | bgt r
  | ble r | bsr r => dsimp only [Instr.opcode]; rfl
  | nim v n | oim v n | xim v n | tmm v n => dsimp only [Instr.opcode]; rfl
  | tab | tba | tsx | txs | psha | pshb | pula | pulb | clra | clrb | aba | sba | cba | daa | nega | negb | inca | incb
  | deca | decb | tsta | tstb | inx | dex | ins | des | coma | comb | asla | aslb | asra | asrb | lsra | lsrb | rola
  | rolb | rora | rorb | rts | nop | clc | sec | clv | sev | cli | sei | tap | tpa | swi | rti | wai => rfl

/-- With `unimpl` aside, only the extension is ever ill-formed (R112). -/
theorem wellFormed_of_hasRow (ext : Bool) (i : Instr) (hasRow : ∀ op, i ≠ .unimpl op) :
    i.wellFormed ext = (!i.isExtension || ext) := by
  unfold Instr.wellFormed
  split
  · exact absurd rfl (hasRow _)
  · rfl

/-- A well-formed instruction is what the decoder makes of its own bytes. -/
theorem decodeOp_ownBytes {ext : Bool} {i : Instr} (wf : i.wellFormed ext = true) :
    decodeOp ext i.opcode (i.operandBytes.getD 0 0) (i.operandBytes.getD 1 0) = i := by
  by_cases hasRow : ∀ op, i ≠ .unimpl op
  · rw [wellFormed_of_hasRow ext i hasRow] at wf
    have present : ¬ (!ext && i.isExtension) = true := by
      cases ext with
      | true => simp
      | false => simpa using wf
    rw [decodeOp, decodeGrid_ownBytes i hasRow, if_neg present]
  · obtain ⟨op, rfl⟩ : ∃ op, i = .unimpl op := by simpa using hasRow
    exact Laws.decodeOp_unimplemented ext op wf _ _

/-- The opcode byte of a well-formed instruction selects its length (R100). -/
theorem opcodeLength_opcode {ext : Bool} {i : Instr} (wf : i.wellFormed ext = true) :
    opcodeLength ext i.opcode = i.length := by
  rw [← decodeOp_length ext i.opcode (i.operandBytes.getD 0 0) (i.operandBytes.getD 1 0), decodeOp_ownBytes wf]

/-! ### Lists of bytes -/

section

variable {ext : Bool} {op : Byte}

theorem decode_of_length_one (h : opcodeLength ext op = 1) (rest : List Byte) :
    decode ext (op :: rest) = .ok (decodeOp ext op 0 0, rest) := by
  simp only [decode, h]

theorem decode_of_length_two (h : opcodeLength ext op = 2) (b1 : Byte) (rest : List Byte) :
    decode ext (op :: b1 :: rest) = .ok (decodeOp ext op b1 0, rest) := by
  simp only [decode, h]

theorem decode_of_length_three (h : opcodeLength ext op = 3) (b1 b2 : Byte) (rest : List Byte) :
    decode ext (op :: b1 :: b2 :: rest) = .ok (decodeOp ext op b1 b2, rest) := by
  simp only [decode, h]

end

/-- What decodes is one, two or three bytes, as many as the first says, and the bytes after them. -/
theorem decode_cases {ext : Bool} {bs rest : List Byte} {i : Instr} (h : decode ext bs = .ok (i, rest)) : ∃ op,
    (opcodeLength ext op = 1 ∧ bs = op :: rest ∧ i = decodeOp ext op 0 0) ∨
    (opcodeLength ext op = 2 ∧ ∃ b1, bs = op :: b1 :: rest ∧ i = decodeOp ext op b1 0) ∨
    (opcodeLength ext op = 3 ∧ ∃ b1 b2, bs = op :: b1 :: b2 :: rest ∧ i = decodeOp ext op b1 b2) := by
  match bs with
  | [] => cases h
  | op :: tail =>
    simp only [decode] at h
    split at h
    · next length => cases h; exact ⟨op, .inl ⟨length, rfl, rfl⟩⟩
    · next length => cases h; exact ⟨op, .inr (.inl ⟨length, _, rfl, rfl⟩)⟩
    · next length => cases h; exact ⟨op, .inr (.inr ⟨length, _, _, rfl, rfl⟩)⟩
    · cases h

/-- Settles O1: the instruction's length is the one its opcode byte selects, and its row filled in with its bytes is it. -/
theorem decodeOfEncodeIsTheInstruction : Obligations.DecodeOfEncodeIsTheInstruction := by
  intro ext i rest wf
  have row := decodeOp_ownBytes wf
  have length : opcodeLength ext i.opcode = i.operandBytes.length + 1 := opcodeLength_opcode wf
  have atMostThree := opcodeLength_cases ext i.opcode
  unfold encode
  generalize i.operandBytes = operands at row length
  match operands with
  | [] => simpa [decode_of_length_one length] using row
  | [_] => simpa [decode_of_length_two length] using row
  | [_, _] => simpa [decode_of_length_three length] using row
  | _ :: _ :: _ :: _ => simp only [List.length_cons] at length; omega

/-- Settles O2: in each of the three cases the bytes read are the row's. -/
theorem encodeOfDecodeIsTheBytes : Obligations.EncodeOfDecodeIsTheBytes := by
  intro ext bs i rest h
  obtain ⟨op, ⟨length, rfl, rfl⟩ | ⟨length, b1, rfl, rfl⟩ | ⟨length, b1, b2, rfl, rfl⟩⟩ := decode_cases h <;>
    exact ⟨by rw [encode_decodeOp, length]; rfl, decodeOp_wellFormed ext op _ _⟩

/-- A list that decodes with no byte left over has the length its opcode byte selects. -/
theorem opcodeLength_of_decode {ext : Bool} {op : Byte} {operands : List Byte} {i : Instr}
    (h : decode ext (op :: operands) = .ok (i, [])) : opcodeLength ext op = operands.length + 1 := by
  obtain ⟨bytes, wf⟩ := encodeOfDecodeIsTheBytes ext _ i [] h
  rw [List.append_nil] at bytes
  obtain ⟨rfl, rfl⟩ := List.cons.inj bytes
  exact opcodeLength_opcode wf

/-- Settles O3: one, two or three bytes asked for, and as many given or fewer. -/
theorem decoderFailsOnlyOnShortInput : Obligations.DecoderFailsOnlyOnShortInput := by
  intro ext op rest
  rcases opcodeLength_cases ext op with h | h | h
  · simp [decode_of_length_one h, h]
  · match rest with
    | [] => simp [decode, h]
    | _ :: _ => simp [decode_of_length_two h, h]
  · match rest with
    | [] | [_] => simp [decode, h]
    | _ :: _ :: _ => simp [decode_of_length_three h, h]

/-- A byte decodes as unimplemented exactly where well-formedness lets `unimpl` carry it (R112). -/
theorem decodeOp_eq_unimpl_iff (ext : Bool) (op b1 b2 : Byte) :
    decodeOp ext op b1 b2 = .unimpl op ↔ (Instr.unimpl op).wellFormed ext = true :=
  ⟨fun h => h ▸ decodeOp_wellFormed ext op b1 b2, fun wf => Laws.decodeOp_unimplemented ext op wf b1 b2⟩

/-- Settles O4: both lists are the ones that well-formedness names. -/
theorem unimplementedBytesAreTheListed : Obligations.UnimplementedBytesAreTheListed := by
  intro op b1 b2
  simp only [decodeOp_eq_unimpl_iff, Instr.wellFormed, Bool.or_eq_true, List.contains_iff_mem]
  exact ⟨by simp [unimplementedBytes], by simp [extensionBytes]⟩

/-- Settles O5: the decoder is evaluated on the ten words. -/
theorem specWordsDecode : Obligations.SpecWordsDecode := by
  unfold Obligations.SpecWordsDecode
  decide
end Sys2Proof
end

section
/-! Operands of the addressing modes, the fetch of an instruction and its execution (30_encoding.md R103 to R106, R114). -/

namespace Sys2Proof.Machine

open Sys2Proof.Spec

/-- The direct address lies in page zero (R104). -/
theorem eaDir_eq_ofNat (v : Byte) : eaDir v = BitVec.ofNat 16 v.toNat := by
  apply BitVec.eq_of_toNat_eq
  simp [eaDir, zext16]

/-- The indexed offset is unsigned, and the sum wraps (R105). -/
theorem eaIdx_eq_ofNat (s : State) (v : Byte) : eaIdx s v = BitVec.ofNat 16 (s.x.toNat + v.toNat) := by
  apply BitVec.eq_of_toNat_eq
  simp [eaIdx, zext16]

/-- Settles O11: the operand and the address of each mode are as defined, the direct and the indexed one by the two
lemmas above. -/
theorem operandsOfEveryMode : Obligations.OperandsOfEveryMode :=
  fun s v _ =>
    ⟨rfl, rfl, congrArg (read8 s) (eaDir_eq_ofNat v), congrArg (read16 s) (eaDir_eq_ofNat v),
      congrArg (read8 s) (eaIdx_eq_ofNat s v), congrArg (read16 s) (eaIdx_eq_ofNat s v), rfl, rfl, eaDir_eq_ofNat v, rfl, rfl,
      eaIdx_eq_ofNat s v, eaIdx_eq_ofNat s v, eaIdx_eq_ofNat s v⟩

/-- The fetch of an instruction reads the bytes that decode to it, in order (R102, R114). -/
theorem fetchInstr_of_fetched {s t : State} {i : Instr} (h : Fetched s i t) : fetchInstr s = (i, t) := by
  obtain ⟨hdec, rfl⟩ | ⟨hdec, rfl⟩ | ⟨hdec, rfl⟩ := h
  · have length : opcodeLength _ _ = 1 := opcodeLength_of_decode hdec
    rw [decode_of_length_one length] at hdec
    cases hdec
    simp [fetchInstr, fetch8, length]
  · have length : opcodeLength _ _ = 2 := opcodeLength_of_decode hdec
    rw [decode_of_length_two length] at hdec
    cases hdec
    simp [fetchInstr, fetch8, length, BitVec.add_assoc]
  · have length : opcodeLength _ _ = 3 := opcodeLength_of_decode hdec
    rw [decode_of_length_three length] at hdec
    cases hdec
    simp [fetchInstr, fetch8, length, BitVec.add_assoc]

/-- Bytes in backed memory are fetched without any side effect (20_memory.md R66). -/
theorem fetched_of_backed {s : State} {i : Instr} {rest : List Byte}
    (hdec : decode s.cfg.extMb8861 (bytesAtPc s) = .ok (i, rest))
    (hbacked : ∀ k : Nat, k < i.length → backed s.cfg (s.pc + BitVec.ofNat 16 k) = true) :
    Fetched s i (s.setPc (s.pc + BitVec.ofNat 16 i.length)) := by
  have read (k : Nat) (hk : k < i.length) := read8_backed s _ (hbacked k hk)
  obtain ⟨op, ⟨length, bytes, rfl⟩ | ⟨length, b1, bytes, rfl⟩ | ⟨length, b1, b2, bytes, rfl⟩⟩ := decode_cases hdec
  all_goals
    rw [decodeOp_length, length] at read ⊢
    simp only [bytesAtPc, List.cons.injEq] at bytes
    have read0 := read 0 (by decide)
    rw [BitVec.add_zero] at read0
  · obtain ⟨rfl, -⟩ := bytes
    refine .inl ⟨?_, ?_⟩ <;> simp only [read0]
    · exact decode_of_length_one length []
    · rfl
  · obtain ⟨rfl, rfl, -⟩ := bytes
    have read1 : read8 s (s.pc + 1) = _ := read 1 (by decide)
    refine .inr (.inl ⟨?_, ?_⟩) <;> simp only [read0, read1]
    · exact decode_of_length_two length _ []
    · rfl
  · obtain ⟨rfl, rfl, rfl, -⟩ := bytes
    have read1 : read8 s (s.pc + 1) = _ := read 1 (by decide)
    have read2 : read8 s (s.pc + 2) = _ := read 2 (by decide)
    refine .inr (.inr ⟨?_, ?_⟩) <;> simp only [read0, read1, read2]
    · exact decode_of_length_three length _ _ []
    · rfl

/-- A fetch leaves the configuration as it is. -/
theorem fetchInstr_cfg (s : State) : (fetchInstr s).2.cfg = s.cfg := Accesses.refl.fetchInstr.kept.cfg

/-- A decision with nothing in its way is the sixth arm (60_exceptions.md R321). -/
theorem decision_of_running {s : State} (running : Running s) (n : Nat) : decision n s = executeOne s := by
  simp only [decision, (mode_running_iff s).mpr running]

/-- A running decision executes what was fetched; in a tick of one cycle it ends the call, which any cost above 0 does (R320,
R321, R344). -/
theorem runsFetched_of_fetchInstr {s t : State} {i : Instr} (running : Running s) (fetched : fetchInstr s = (i, t)) :
    RunsFetched s i t := by
  have decided (n : Nat) : decision n s = _ := decision_of_running running n
  simp only [executeOne, fetched] at decided
  refine ⟨decided, fun ⟨idle, queue⟩ chunk cost => ?_⟩
  obtain ⟨u, executed, accesses⟩ := exec_accesses i t
  have cfg : u.cfg = s.cfg := by
    rw [accesses.kept.cfg, ← fetchInstr_cfg s, fetched]
  simp only [executed] at decided ⊢
  simp [step, hostTurn, idle, queue, runCall, chunk, decided, afterDecision, finishCall, cfg, cost.ne']

/-- An instruction that has a row costs what the table says of its opcode byte (00_scope.md R10). -/
theorem instrCost_of_hasRow {p : Params} {i : Instr} (hasRow : ∀ b, i ≠ .unimpl b) :
    instrCost p i = p.cyc.getD i.opcode.toNat p.cycUnimpl := by
  unfold instrCost
  split
  · exact absurd rfl (hasRow _)
  · rfl

/-- Settles O39: a fetch from any memory is `fetchInstr`, one from backed memory is a case of it, and the cost is looked up
by the opcode byte. -/
theorem stepRunsTheDecodedInstruction : Obligations.StepRunsTheDecodedInstruction := by
  refine ⟨fun s t i running fetched => runsFetched_of_fetchInstr running (fetchInstr_of_fetched fetched), ?_, ?_⟩
  · intro s i rest running hdec hbacked
    exact runsFetched_of_fetchInstr running (fetchInstr_of_fetched (fetched_of_backed hdec hbacked))
  · intro p i op operands n bytes
    obtain ⟨rfl, -⟩ := List.cons.inj bytes
    refine ⟨fun ⟨b, unimpl⟩ => unimpl ▸ rfl, fun hasRow cost => ?_⟩
    rw [instrCost_of_hasRow hasRow, List.getD_eq_getElem?_getD, cost]
    rfl

end Sys2Proof.Machine
end

section
/-! The rows of an instruction's forms: the cost of each is the decided one of its opcode byte (30_encoding.md R101, R111,
70_reset_and_hazards.md R420). -/

namespace Sys2Proof.Machine

open Sys2Proof.Spec

/-- What the decided table charges an opcode byte that has a row. -/
def decidedCost (op : Byte) : Nat := decidedParams.cyc.getD op.toNat decidedParams.cycUnimpl

/-- An instruction that has a row is charged for its opcode byte, the first of its bytes. -/
theorem row_of_hasRow {i : Instr} {op : Byte} {operands : List Byte} (encoded : encode i = op :: operands)
    (hasRow : ∀ b, i ≠ .unimpl b) : Row i (op :: operands) (decidedCost op) := by
  obtain ⟨opcode, -⟩ := List.cons.inj encoded
  exact ⟨encoded, opcode ▸ instrCost_of_hasRow hasRow⟩

section

variable {imm dir idx ext : Byte}

/-- An 8-bit accumulator operation: four opcode bytes, charged 2, 3, 5 and 4. -/
theorem rows8_of_forms {mk : Src8 → Instr}
    (row : ∀ o, Row (mk o) (o.pick imm dir idx ext :: o.bytes) (decidedCost (o.pick imm dir idx ext)))
    (costs : [imm, dir, idx, ext].map decidedCost = [2, 3, 5, 4]) : Rows8 mk imm dir idx ext := by
  simp only [List.map_cons, List.cons.injEq] at costs
  obtain ⟨costImm, costDir, costIdx, costExt, -⟩ := costs
  exact fun v w => ⟨costImm ▸ row (.imm v), costDir ▸ row (.dir v), costIdx ▸ row (.idx v), costExt ▸ row (.ext w)⟩

/-- A 16-bit load or compare: four opcode bytes, charged 3, 4, 6 and 5. -/
theorem rows16_of_forms {mk : Src16 → Instr}
    (row : ∀ o, Row (mk o) (o.pick imm dir idx ext :: o.bytes) (decidedCost (o.pick imm dir idx ext)))
    (costs : [imm, dir, idx, ext].map decidedCost = [3, 4, 6, 5]) : Rows16 mk imm dir idx ext := by
  simp only [List.map_cons, List.cons.injEq] at costs
  obtain ⟨costImm, costDir, costIdx, costExt, -⟩ := costs
  exact fun v w => ⟨costImm ▸ row (.imm w), costDir ▸ row (.dir v), costIdx ▸ row (.idx v), costExt ▸ row (.ext w)⟩

/-- A store: three opcode bytes, the indexed and the extended form dearer by 2 and 1. -/
theorem rowsStore_of_forms {mk : Dst → Instr} {n : Nat}
    (row : ∀ d, Row (mk d) (d.pick dir idx ext :: d.bytes) (decidedCost (d.pick dir idx ext)))
    (costs : [dir, idx, ext].map decidedCost = [n, n + 2, n + 1]) : RowsStore mk dir idx ext n := by
  simp only [List.map_cons, List.cons.injEq] at costs
  obtain ⟨costDir, costIdx, costExt, -⟩ := costs
  exact fun v w => ⟨costDir ▸ row (.dir v), costIdx ▸ row (.idx v), costExt ▸ row (.ext w)⟩

/-- An operation on a memory operand: two opcode bytes, each with its charge. -/
theorem rowsMem_of_forms {mk : Loc → Instr} {cIdx cExt : Nat}
    (row : ∀ m, Row (mk m) (m.pick idx ext :: m.bytes) (decidedCost (m.pick idx ext)))
    (costs : [idx, ext].map decidedCost = [cIdx, cExt]) : RowsMem mk idx ext cIdx cExt := by
  simp only [List.map_cons, List.cons.injEq] at costs
  obtain ⟨costIdx, costExt, -⟩ := costs
  exact fun v w => ⟨costIdx ▸ row (.idx v), costExt ▸ row (.ext w)⟩

end

end Sys2Proof.Machine
end

section
/-! Loads, stores, transfers, stack moves and clears (40_load_store_transfer.md). -/

namespace Sys2Proof.Machine

open Sys2Proof.Spec

/-- The sign of a byte is its bit 7 (R130, R131). -/
@[simp] theorem nzv_eq_logic8 (r : Byte) (f : Flags) : nzv r f = f.logic8 r := by
  simp [nzv, Flags.logic8, Flags.setNZ8, BitVec.msb_eq_getLsbD_last, beq_eq_decide]

/-- The sign of a word is its bit 15 (R130, R135). -/
@[simp] theorem nzv16_eq_load16 (w : Word) (f : Flags) : nzv16 w f = f.load16 w := by
  simp [nzv16, Flags.load16, Flags.setNZ16, BitVec.msb_eq_getLsbD_last, beq_eq_decide]

/-- A pull reads the byte above SP, which it leaves SP at (10_state.md R33). -/
theorem pull8_eq_read8 (s : State) :
    pull8 s = ((read8 s (s.sp + 1)).1, (read8 s (s.sp + 1)).2.setSp (s.sp + 1)) := read8_setSp s _ _

/-- The opcode byte of a store is that of its destination's form. -/
theorem storeOpcode_eq_pick (d : Dst) (dir idx ext : Byte) : storeOpcode d dir idx ext = d.pick dir idx ext := by
  cases d <;> rfl

/-- Settles O12: the rows of the four loads, and the flags as bits of what was loaded. -/
theorem loadResults : Obligations.LoadResults := by
  refine ⟨rows8_of_forms (fun _ => row_of_hasRow rfl nofun) rfl, rows8_of_forms (fun _ => row_of_hasRow rfl nofun) rfl,
    rows16_of_forms (fun _ => row_of_hasRow rfl nofun) rfl, rows16_of_forms (fun _ => row_of_hasRow rfl nofun) rfl,
    fun s o w => ?_⟩
  simp only [nzv_eq_logic8, nzv16_eq_load16]
  exact ⟨exec_ldaa o s, exec_ldab o s, exec_ldx w s, exec_lds w s⟩

/-- Settles O13: the rows of the two stores, and the flags as bits of what was stored. -/
theorem byteStoreResults : Obligations.ByteStoreResults := by
  refine ⟨rowsStore_of_forms (fun _ => row_of_hasRow rfl nofun) rfl,
    rowsStore_of_forms (fun _ => row_of_hasRow rfl nofun) rfl, fun s d => ?_⟩
  simp only [nzv_eq_logic8]
  exact ⟨exec_staa d s, exec_stab d s⟩

/-- Settles O14: the function of the flags is `Flags.store16`, which writes N, Z and V alone. -/
theorem wordStoreResults : Obligations.WordStoreResults := by
  refine ⟨rowsStore_of_forms (fun _ => row_of_hasRow rfl nofun) rfl,
    rowsStore_of_forms (fun _ => row_of_hasRow rfl nofun) rfl,
    fun op w f => f.store16 op w, fun _ _ _ => ⟨rfl, rfl, rfl⟩, fun s d => ?_⟩
  simp only [storeOpcode_eq_pick]
  exact ⟨exec_stx d s, exec_sts d s⟩

/-- Settles O15: a transfer sets flags as a load does; a pull is a read above SP, and a clear no read at all. -/
theorem transferStackMoveAndClearResults : Obligations.TransferStackMoveAndClearResults := by
  refine ⟨⟨rfl, rfl⟩, ⟨rfl, rfl⟩, ⟨rfl, rfl⟩, ⟨rfl, rfl⟩, ⟨rfl, rfl⟩, ⟨rfl, rfl⟩, ⟨rfl, rfl⟩, ⟨rfl, rfl⟩,
    ⟨⟨rfl, rfl⟩, ⟨rfl, rfl⟩, rowsMem_of_forms (fun _ => row_of_hasRow rfl nofun) rfl⟩, fun s m => ?_⟩
  simp only [nzv_eq_logic8]
  refine ⟨exec_tab s, exec_tba s, exec_tsx s, exec_txs s, exec_psha s, exec_pshb s, ?_, ?_,
    exec_clra s, exec_clrb s, exec_clr m s⟩
  · rw [exec_pula, execPula, pull8_eq_read8]
  · rw [exec_pulb, execPulb, pull8_eq_read8]

/-- Settles O34: each constructor's accesses to memory end in a next state. -/
theorem everyInstructionCompletes : Obligations.EveryInstructionCompletes := by
  intro i s
  obtain ⟨t, next, -⟩ := exec_accesses i s
  exact ⟨t, next⟩

end Sys2Proof.Machine
end

section
/-! Integer arithmetic, comparison, decimal adjustment and 16-bit counting (41_arithmetic.md), and the branches after a
comparison (43_control_transfer.md). -/

namespace Sys2Proof.Machine

open Sys2Proof.Spec

/-! ### The formulas of the rules are those of the model -/

/-- The sign of a byte is its bit 7. -/
@[simp] theorem byte_getLsbD_seven (b : Byte) : b.getLsbD 7 = b.msb := (BitVec.msb_eq_getLsbD_last b).symm

/-- A sum of bytes and a carry, modulo 256 (R171). -/
theorem add8_result (a m : Byte) (cin : Bool) (f : Flags) :
    (add8 a m cin f).1 = a + m + BitVec.ofNat 8 cin.toNat := by
  apply BitVec.eq_of_toNat_eq
  simp [add8]

/-- A difference of bytes and a borrow, modulo 256 (R172). -/
theorem sub8_result (a m : Byte) (bin : Bool) (f : Flags) :
    (sub8 a m bin f).1 = a - m - BitVec.ofNat 8 bin.toNat := by
  apply BitVec.eq_of_toNat_eq
  simp only [sub8, BitVec.toNat_ofInt, BitVec.toNat_sub, BitVec.toNat_ofNat]
  omega

/-- Operands of one sign and a sum of the other: bit 7 of `(a xor r) and (m xor r)` (R171). -/
theorem overflow_add_bit (a m r : Byte) :
    ((a ^^^ r) &&& (m ^^^ r)).getLsbD 7 = (a.msb == m.msb && r.msb != a.msb) := by
  simp only [byte_getLsbD_seven, BitVec.msb_and, BitVec.msb_xor]
  cases a.msb <;> cases m.msb <;> cases r.msb <;> rfl

/-- Operands of two signs and a difference of the second: bit 7 of `(a xor m) and (a xor r)` (R172). -/
theorem overflow_sub_bit (a m r : Byte) :
    ((a ^^^ m) &&& (a ^^^ r)).getLsbD 7 = (a.msb != m.msb && r.msb != a.msb) := by
  simp only [byte_getLsbD_seven, BitVec.msb_and, BitVec.msb_xor]
  cases a.msb <;> cases m.msb <;> cases r.msb <;> rfl

/-- The addition of R171: its result and its V are those of the two lemmas above. -/
theorem add_eq_add8 (a m : Byte) (cin : Bool) (f : Flags) : Spec.add a m cin f = add8 a m cin f := by
  simp only [Spec.add, ← add8_result a m cin f, overflow_add_bit]
  simp only [byte_getLsbD_seven, ← beq_eq_decide]
  rfl

/-- The subtraction of R172: the difference is negative exactly if what is taken away is greater. -/
theorem sub_eq_sub8 (a m : Byte) (bin : Bool) (f : Flags) : Spec.sub a m bin f = sub8 a m bin f := by
  have borrow : decide (m.toNat + bin.toNat > a.toNat) = (sub8 a m bin f).2.c := by
    simp only [sub8, decide_eq_decide]
    omega
  simp only [Spec.sub, ← sub8_result a m bin f, borrow, overflow_sub_bit]
  simp only [byte_getLsbD_seven, ← beq_eq_decide]
  rfl

/-- The negation of R187: the result is 0x80 exactly for the operand 0x80, and 0 exactly for 0. -/
theorem neg_eq_neg8 : Spec.neg = neg8 := by
  funext m f
  have result : BitVec.ofNat 8 (256 - m.toNat) = 0 - m := by bv_omega
  have overflow : decide (m = 0x80) = (0 - m == 0x80) := by rw [beq_eq_decide, decide_eq_decide]; bv_omega
  have carry : decide (m ≠ 0) = (0 - m != 0) := by rw [Bool.eq_iff_iff, decide_eq_true_eq, bne_iff_ne]; bv_omega
  simp only [Spec.neg, neg8, result, overflow, carry, byte_getLsbD_seven, ← beq_eq_decide]

/-- The increment of R191: one more, modulo 256. -/
theorem inc_eq_inc8 : Spec.inc = inc8 := by
  funext m f
  have result : BitVec.ofNat 8 (m.toNat + 1) = m + 1 := by bv_omega
  simp only [Spec.inc, inc8, result, byte_getLsbD_seven, ← beq_eq_decide]

/-- The decrement of R195: 255 more is one less, modulo 256. -/
theorem dec_eq_dec8 : Spec.dec = dec8 := by
  funext m f
  have result : BitVec.ofNat 8 (m.toNat + 255) = m - 1 := by bv_omega
  simp only [Spec.dec, dec8, result, byte_getLsbD_seven, ← beq_eq_decide]

/-- The sign of a word is that of its high byte. -/
theorem hi8_msb (w : Word) : (hi8 w).msb = w.msb := by
  simp [hi8, BitVec.msb_eq_getLsbD_last]

/-- The flags of CPX are those of a subtraction of the high bytes, but for Z and C (R206). -/
theorem cpxFlags_eq_sub8 (x w : Word) (f : Flags) :
    cpxFlags x w f = { (sub8 (hi8 x) (hi8 w) false f).2 with z := decide (x = w), c := f.c } := by
  have result : BitVec.ofInt 8 ((hi8 x).toNat - (hi8 w).toNat - false.toNat : Int) = hi8 x - hi8 w := by
    simpa [sub8] using sub8_result (hi8 x) (hi8 w) false f
  simp only [cpxFlags, sub8, result, hi8_msb, beq_eq_decide]

/-- The flags of DAA in the numbers of R186. -/
theorem daa8_eq (a : Byte) (v : Bool) (f : Flags) : daa8 a v f =
    (BitVec.ofNat 8 (a.toNat + daaCorrection a f), { f with
      n := decide ((a.toNat + daaCorrection a f) % 256 ≥ 128)
      z := decide ((a.toNat + daaCorrection a f) % 256 = 0)
      v := v
      c := decide (f.c = true ∨ a.toNat + daaCorrection a f > 255) }) := by
  simp [daa8, byte_msb_eq, beq_eq_decide, ← BitVec.toNat_inj]

/-! ### Results, flags, encodings and costs -/

/-- Settles O16: the rows of the additions, and their formula as that of `add8`. -/
theorem additionResults : Obligations.AdditionResults := by
  refine ⟨rows8_of_forms (fun _ => row_of_hasRow rfl nofun) rfl, rows8_of_forms (fun _ => row_of_hasRow rfl nofun) rfl,
    rows8_of_forms (fun _ => row_of_hasRow rfl nofun) rfl, rows8_of_forms (fun _ => row_of_hasRow rfl nofun) rfl,
    ⟨rfl, rfl⟩, fun s o => ?_⟩
  simp only [add_eq_add8]
  exact ⟨exec_adda o s, exec_addb o s, exec_adca o s, exec_adcb o s, exec_aba s⟩

/-- Settles O17: the rows of the subtractions and comparisons, and their formula as that of `sub8`. -/
theorem subtractionAndCompareResults : Obligations.SubtractionAndCompareResults := by
  refine ⟨rows8_of_forms (fun _ => row_of_hasRow rfl nofun) rfl, rows8_of_forms (fun _ => row_of_hasRow rfl nofun) rfl,
    rows8_of_forms (fun _ => row_of_hasRow rfl nofun) rfl, rows8_of_forms (fun _ => row_of_hasRow rfl nofun) rfl,
    ⟨rfl, rfl⟩, rows8_of_forms (fun _ => row_of_hasRow rfl nofun) rfl,
    rows8_of_forms (fun _ => row_of_hasRow rfl nofun) rfl, ⟨rfl, rfl⟩, fun s o => ?_⟩
  simp only [sub_eq_sub8]
  exact ⟨exec_suba o s, exec_subb o s, exec_sbca o s, exec_sbcb o s, exec_sba s, exec_cmpa o s, exec_cmpb o s, exec_cba s⟩

/-- Settles O19: V is the next free value, and the correction is added in two parts. -/
theorem decimalAdjustResults : Obligations.DecimalAdjustResults := by
  refine ⟨⟨rfl, rfl⟩, fun s => ⟨Config.daaOverflow s.free, ?_⟩⟩
  have executed : exec .daa s =
      .next ((resultA s (daa8 s.a (Config.daaOverflow s.free) s.flags)).setFree (s.free + 1)) := exec_daa s
  simp only [executed, daa8_eq, daaCorrection, ← Nat.add_assoc]

/-- Settles O21: the rows of the three operations, and the three functions as those of the model. -/
theorem negateIncrementDecrementResults : Obligations.NegateIncrementDecrementResults := by
  unfold Obligations.NegateIncrementDecrementResults
  rw [neg_eq_neg8, inc_eq_inc8, dec_eq_dec8]
  exact ⟨⟨⟨rfl, rfl⟩, ⟨rfl, rfl⟩, rowsMem_of_forms (fun _ => row_of_hasRow rfl nofun) rfl⟩,
    ⟨⟨rfl, rfl⟩, ⟨rfl, rfl⟩, rowsMem_of_forms (fun _ => row_of_hasRow rfl nofun) rfl⟩,
    ⟨⟨rfl, rfl⟩, ⟨rfl, rfl⟩, rowsMem_of_forms (fun _ => row_of_hasRow rfl nofun) rfl⟩,
    fun s m => ⟨exec_nega s, exec_negb s, exec_neg m s⟩, fun s m => ⟨exec_inca s, exec_incb s, exec_inc m s⟩,
    fun s m => ⟨exec_deca s, exec_decb s, exec_dec m s⟩⟩

/-- Settles O22: X counts to 0 from 0xFFFF upwards and from 1 downwards, and CPX is `cpxFlags_eq_sub8`. -/
theorem testCountAndCompareIndexResults : Obligations.TestCountAndCompareIndexResults := by
  refine ⟨⟨⟨rfl, rfl⟩, ⟨rfl, rfl⟩, rowsMem_of_forms (fun _ => row_of_hasRow rfl nofun) rfl⟩, ⟨rfl, rfl⟩, ⟨rfl, rfl⟩,
    ⟨rfl, rfl⟩, ⟨rfl, rfl⟩, rows16_of_forms (fun _ => row_of_hasRow rfl nofun) rfl, fun s m o => ?_⟩
  have wrapsUp : decide (s.x = 0xFFFF) = (s.x + 1 == 0) := by rw [beq_eq_decide, decide_eq_decide]; bv_omega
  have wrapsDown : decide (s.x = 0x0001) = (s.x - 1 == 0) := by rw [beq_eq_decide, decide_eq_decide]; bv_omega
  simp only [nzv_eq_logic8, sub_eq_sub8, ← cpxFlags_eq_sub8, wrapsUp, wrapsDown]
  exact ⟨exec_tsta s, exec_tstb s, exec_tst m s, exec_inx s, exec_dex s, exec_ins s, exec_des s, exec_cpx o s⟩

/-! ### Decimal addition -/

/-- DAA corrects a binary sum of packed decimal bytes by 6 where the low digits passed 9, and by 0x60 where the decimal sum
passed 99 (R186). -/
theorem daaCorrection_add8 {a m : Byte} (ha : isBcd a) (hm : isBcd m) (cin : Bool) (f : Flags) :
    daaCorrection (add8 a m cin f).1 (add8 a m cin f).2 =
      (if 9 < a.toNat % 16 + m.toNat % 16 + cin.toNat then 0x06 else 0) +
        (if 99 < bcd a + bcd m + cin.toNat then 0x60 else 0) := by
  obtain ⟨haHigh, haLow⟩ := ha
  obtain ⟨hmHigh, hmLow⟩ := hm
  have hc : cin.toNat ≤ 1 := Bool.toNat_le cin
  simp only [daaCorrection, add8, bcd, BitVec.toNat_ofNat, decide_eq_true_eq]
  congr 1
  · exact if_congr (by omega) rfl rfl
  · exact if_congr (by omega) rfl rfl

/-- DAA takes 160 from a binary sum of packed decimal bytes, the 0x60 it adds less the 256 that pass into C, exactly where
their decimal sum passed 99. -/
theorem daa8_add8_toNat {a m : Byte} (ha : isBcd a) (hm : isBcd m) (cin v : Bool) (f : Flags) :
    let adjusted := daa8 (add8 a m cin f).1 v (add8 a m cin f).2
    adjusted.1.toNat + (if 99 < bcd a + bcd m + cin.toNat then 160 else 0) =
        a.toNat + m.toNat + cin.toNat + (if 9 < a.toNat % 16 + m.toNat % 16 + cin.toNat then 6 else 0) ∧
      adjusted.2.c = decide (99 < bcd a + bcd m + cin.toNat) := by
  have sum : (add8 a m cin f).1.toNat = (a.toNat + m.toNat + cin.toNat) % 256 := BitVec.toNat_ofNat ..
  have carry : (add8 a m cin f).2.c = decide (255 < a.toNat + m.toNat + cin.toNat) := rfl
  have valueA : bcd a = 10 * (a.toNat / 16) + a.toNat % 16 := rfl
  have valueM : bcd m = 10 * (m.toNat / 16) + m.toNat % 16 := rfl
  have hc : cin.toNat ≤ 1 := Bool.toNat_le cin
  have correction := daaCorrection_add8 ha hm cin f
  obtain ⟨haHigh, haLow⟩ := ha
  obtain ⟨hmHigh, hmLow⟩ := hm
  simp only [daa8_eq, sum, carry, correction, BitVec.toNat_ofNat, decide_eq_decide, decide_eq_true_eq, Nat.reducePow,
    Nat.mod_add_mod]
  split <;> split <;> constructor <;> omega

/-- DAA makes a binary sum of packed decimal bytes their decimal sum, with its hundreds in C (R186). -/
theorem daa8_add8_decimal {a m : Byte} (ha : isBcd a) (hm : isBcd m) (cin v : Bool) (f : Flags) :
    let adjusted := daa8 (add8 a m cin f).1 v (add8 a m cin f).2
    isBcd adjusted.1 ∧ bcd adjusted.1 + 100 * adjusted.2.c.toNat = bcd a + bcd m + cin.toNat := by
  obtain ⟨result, hundreds⟩ := daa8_add8_toNat ha hm cin v f
  have hc : cin.toNat ≤ 1 := Bool.toNat_le cin
  obtain ⟨haHigh, haLow⟩ := ha
  obtain ⟨hmHigh, hmLow⟩ := hm
  simp only [hundreds]
  generalize daa8 _ v _ = adjusted at result ⊢
  by_cases passed : 99 < bcd a + bcd m + cin.toNat
  all_goals
    simp only [passed, if_true, if_false, decide_true, decide_false, Bool.toNat_true, Bool.toNat_false] at result ⊢
    unfold bcd at passed ⊢
    unfold isBcd
    split at result <;> omega

/-- Settles O20: what the two instructions leave in A and C is `daa8` of what `add8` gives. -/
theorem decimalAdjustCorrectsDecimalAddition : Obligations.DecimalAdjustCorrectsDecimalAddition := by
  intro s t u o ha hm added adjusted
  cases added
  cases adjusted
  exact daa8_add8_decimal ha hm s.flags.c _ s.flags

/-! ### Branches after a comparison -/

/-- The target of a branch: the offset is signed, and the sum wraps (30_encoding.md R107). -/
theorem target_eq_add_sext16 (s : State) (rel : Byte) : target s rel = s.pc + sext16 rel := by
  simp [target, sext16, BitVec.ofInt_add, BitVec.signExtend]

/-- A branch is taken exactly if what its condition says is true (43_control_transfer.md R240). -/
theorem next_branchIf_of_iff {cond : Bool} {p : Prop} [Decidable p] (h : cond = true ↔ p) (s : State) (rel : Byte) :
    (.next (branchIf s cond rel) : Host.Outcome State Fault Refusal) =
      .next (if p then s.setPc (target s rel) else s) := by
  simp only [branchIf, h, target_eq_add_sext16]

/-- C after a comparison: A is below the operand, unsigned (R172). -/
theorem sub8_c_iff_lt (a m : Byte) (f : Flags) : (sub8 a m false f).2.c = true ↔ a.toNat < m.toNat := by
  simp only [sub8, Bool.toNat_false, decide_eq_true_eq]
  omega

/-- Z after a comparison: A is the operand. -/
theorem sub8_z_iff_eq (a m : Byte) (f : Flags) : (sub8 a m false f).2.z = true ↔ a = m := by
  have zero : (sub8 a m false f).2.z = ((sub8 a m false f).1 == 0) := rfl
  rw [zero, sub8_result, beq_iff_eq]
  bv_omega

/-- N after a comparison is the sign of the exact difference unless V says that it does not fit: A is below the operand,
signed. -/
theorem sub8_n_xor_v_iff_lt (a m : Byte) (f : Flags) :
    ((sub8 a m false f).2.n ^^ (sub8 a m false f).2.v) = true ↔ a.toInt < m.toInt := by
  have ha := a.isLt
  have hm := m.isLt
  have v := sub8_v_iff a m false f
  have n : (sub8 a m false f).2.n = true ↔ 128 ≤ ((a.toNat : Int) - m.toNat) % 256 := by
    simp only [sub8, byte_msb_eq, BitVec.toNat_ofInt, decide_eq_true_eq, Bool.toNat_false]
    omega
  rw [Bool.xor_iff_ne, ne_eq, Bool.eq_iff_iff, n, v]
  simp only [byte_toInt_eq, Bool.toNat_false]
  omega

/-- Settles O28: each condition is one in C, Z and N xor V, and these say below, equal and less. -/
theorem branchesAfterCompareDecideTheOrder : Obligations.BranchesAfterCompareDecideTheOrder := by
  intro s t o rel compared
  have flags : t.flags = (sub8 s.a (operand8 s o).1 false s.flags).2 := by cases compared; rfl
  have below : t.flags.c = true ↔ s.a.toNat < (operand8 s o).1.toNat := flags ▸ sub8_c_iff_lt s.a _ s.flags
  have equal : t.flags.z = true ↔ s.a = (operand8 s o).1 := flags ▸ sub8_z_iff_eq s.a _ s.flags
  have less : (t.flags.n ^^ t.flags.v) = true ↔ s.a.toInt < (operand8 s o).1.toInt :=
    flags ▸ sub8_n_xor_v_iff_lt s.a _ s.flags
  have taken {cond : Bool} {p : Prop} [Decidable p] (h : cond = true ↔ p) := next_branchIf_of_iff h t rel
  refine ⟨taken ?bhi, taken ?bls, taken ?bcc, taken below, taken equal, (taken ?bne).trans (congrArg _ (ite_not ..)),
    taken ?bge, taken less, taken ?bgt, taken ?ble⟩
  all_goals simp only [Bool.and_eq_true, Bool.or_eq_true, Bool.not_eq_true', ← Bool.not_eq_true, below, equal, less]
  case bhi | bls => rw [← BitVec.toNat_inj]; omega
  case bcc | bge => omega
  case bgt | ble => rw [← BitVec.toInt_inj]; omega

end Sys2Proof.Machine
end

section
/-! Logic, complement, shifts and rotates (42_logic_shift.md). -/

namespace Sys2Proof.Machine

open Sys2Proof.Spec

/-! ### A bit joined to seven bits of a byte -/

/-- The join of `h` over the `w` bits of `l`, as a number. -/
theorem append_toNat {v w : Nat} (h : BitVec v) (l : BitVec w) : (h ++ l).toNat = h.toNat * 2 ^ w + l.toNat := by
  rw [BitVec.toNat_append, ← Nat.shiftLeft_add_eq_or_of_lt l.isLt, Nat.shiftLeft_eq]

/-- Bits 7 to 1 moved down, under a new bit 7. -/
theorem ofNat_half_add_bit (m : Byte) (c : Bool) :
    BitVec.ofNat 8 (m.toNat / 2 + 128 * c.toNat) = BitVec.ofBool c ++ m.extractLsb' 1 7 := by
  have := Bool.toNat_le c
  apply BitVec.eq_of_toNat_eq
  simp only [append_toNat, BitVec.toNat_ofNat, BitVec.toNat_ofBool, BitVec.extractLsb'_toNat,
    Nat.shiftRight_eq_div_pow]
  omega

/-- Bits 6 to 0 moved up, over a new bit 0. -/
theorem ofNat_double_add_bit (m : Byte) (c : Bool) :
    BitVec.ofNat 8 (2 * m.toNat + c.toNat) = m.extractLsb' 0 7 ++ BitVec.ofBool c := by
  have := Bool.toNat_le c
  apply BitVec.eq_of_toNat_eq
  simp only [append_toNat, BitVec.toNat_ofNat, BitVec.toNat_ofBool, BitVec.extractLsb'_toNat,
    Nat.shiftRight_eq_div_pow]
  omega

/-- Bits 7 to 1 moved down, under bit 7 again. -/
theorem sshiftRight_one_eq (m : Byte) : m.sshiftRight 1 = BitVec.ofBool (m.getLsbD 7) ++ m.extractLsb' 1 7 := by
  refine BitVec.eq_of_getLsbD_eq fun i hi => ?_
  rw [BitVec.getLsbD_sshiftRight, BitVec.getLsbD_append]
  by_cases moved : i < 7
  · simp [moved, hi.not_ge, show 1 + i < 8 by omega]
  · obtain rfl : i = 7 := by omega
    simp [-BitVec.getLsbD_eq_getElem]

/-! ### The functions of the rules are those of the model -/

/-- The complement of R219: an exclusive or with all bits set. -/
theorem com_eq_com8 : Spec.com = com8 := by
  funext m f
  have result : ~~~m = m ^^^ 0xFF := BitVec.xor_allOnes.symm
  simp only [Spec.com, com8, Flags.setNZ8, result, byte_getLsbD_seven, ← beq_eq_decide]

/-- The common flag rule of R222: N and C differ exactly if their exclusive or is set. -/
theorem shift_eq_shiftFlags (r : Byte) (out : Bool) (f : Flags) : Spec.shift r out f = (r, shiftFlags r out f) := by
  have overflow : decide (r.msb ≠ out) = (r.msb ^^ out) := by cases r.msb <;> cases out <;> rfl
  simp only [Spec.shift, shiftFlags, byte_getLsbD_seven, overflow, ← beq_eq_decide]

/-- The left shift of R222 doubles, modulo 256. -/
theorem asl_eq_asl8 : Spec.asl = asl8 := by
  funext m f
  have result : BitVec.ofNat 8 (2 * m.toNat) = m <<< 1 := by bv_omega
  rw [Spec.asl, shift_eq_shiftFlags, result, asl8]

/-- The arithmetic right shift of R222 keeps bit 7. -/
theorem asr_eq_asr8 : Spec.asr = asr8 := by
  funext m f
  rw [Spec.asr, shift_eq_shiftFlags, sshiftRight_one_eq, asr8]

/-- The logical right shift of R222 halves. -/
theorem lsr_eq_lsr8 : Spec.lsr = lsr8 := by
  funext m f
  have result : BitVec.ofNat 8 (m.toNat / 2) = 0#1 ++ m.extractLsb' 1 7 := ofNat_half_add_bit m false
  rw [Spec.lsr, shift_eq_shiftFlags, result, lsr8]

/-- The left rotate of R222 doubles and takes in the carry below, modulo 256. -/
theorem rol_eq_rol8 : Spec.rol = rol8 := by
  funext m f
  rw [Spec.rol, shift_eq_shiftFlags, ofNat_double_add_bit, rol8]

/-- The right rotate of R222 halves and takes in the carry as bit 7. -/
theorem ror_eq_ror8 : Spec.ror = ror8 := by
  funext m f
  rw [Spec.ror, shift_eq_shiftFlags, ofNat_half_add_bit, ror8]

/-! ### Results, flags, encodings and costs -/

/-- Settles O24: the rows, and COM, ASL and ASR as the three functions of the model. -/
theorem complementAndArithmeticShiftResults : Obligations.ComplementAndArithmeticShiftResults := by
  unfold Obligations.ComplementAndArithmeticShiftResults
  rw [com_eq_com8, asl_eq_asl8, asr_eq_asr8]
  exact ⟨⟨⟨rfl, rfl⟩, ⟨rfl, rfl⟩, rowsMem_of_forms (fun _ => row_of_hasRow rfl nofun) rfl⟩,
    ⟨⟨rfl, rfl⟩, ⟨rfl, rfl⟩, rowsMem_of_forms (fun _ => row_of_hasRow rfl nofun) rfl⟩,
    ⟨⟨rfl, rfl⟩, ⟨rfl, rfl⟩, rowsMem_of_forms (fun _ => row_of_hasRow rfl nofun) rfl⟩,
    fun s m => ⟨exec_coma s, exec_comb s, exec_com m s⟩, fun s m => ⟨exec_asla s, exec_aslb s, exec_asl m s⟩,
    fun s m => ⟨exec_asra s, exec_asrb s, exec_asr m s⟩⟩

/-- Settles O25: the rows, and LSR, ROL and ROR as the three functions of the model. -/
theorem logicalShiftAndRotateResults : Obligations.LogicalShiftAndRotateResults := by
  unfold Obligations.LogicalShiftAndRotateResults
  rw [lsr_eq_lsr8, rol_eq_rol8, ror_eq_ror8]
  exact ⟨⟨⟨rfl, rfl⟩, ⟨rfl, rfl⟩, rowsMem_of_forms (fun _ => row_of_hasRow rfl nofun) rfl⟩,
    ⟨⟨rfl, rfl⟩, ⟨rfl, rfl⟩, rowsMem_of_forms (fun _ => row_of_hasRow rfl nofun) rfl⟩,
    ⟨⟨rfl, rfl⟩, ⟨rfl, rfl⟩, rowsMem_of_forms (fun _ => row_of_hasRow rfl nofun) rfl⟩,
    fun s m => ⟨exec_lsra s, exec_lsrb s, exec_lsr m s⟩, fun s m => ⟨exec_rola s, exec_rolb s, exec_rol m s⟩,
    fun s m => ⟨exec_rora s, exec_rorb s, exec_ror m s⟩⟩

/-- Settles O23: the rows of the eight operations, and the flags as bits of the result, kept or discarded. -/
theorem logicResults : Obligations.LogicResults := by
  refine ⟨rows8_of_forms (fun _ => row_of_hasRow rfl nofun) rfl, rows8_of_forms (fun _ => row_of_hasRow rfl nofun) rfl,
    rows8_of_forms (fun _ => row_of_hasRow rfl nofun) rfl, rows8_of_forms (fun _ => row_of_hasRow rfl nofun) rfl,
    rows8_of_forms (fun _ => row_of_hasRow rfl nofun) rfl, rows8_of_forms (fun _ => row_of_hasRow rfl nofun) rfl,
    rows8_of_forms (fun _ => row_of_hasRow rfl nofun) rfl, rows8_of_forms (fun _ => row_of_hasRow rfl nofun) rfl,
    fun s o => ?_⟩
  simp only [nzv_eq_logic8]
  exact ⟨exec_anda o s, exec_andb o s, exec_oraa o s, exec_orab o s, exec_eora o s, exec_eorb o s,
    exec_bita o s, exec_bitb o s⟩

end Sys2Proof.Machine
end

section
/-! Branches, jumps, calls and returns (43_control_transfer.md). -/

namespace Sys2Proof.Machine

open Sys2Proof.Spec

/-! ### Branches -/

/-- An instruction that branches on a Boolean of the flags branches on the condition which that Boolean decides (R240). -/
theorem branch_of_iff {mk : Byte → Instr} {op : Byte} {cond : Flags → Prop} (taken : Flags → Bool)
    (row : RowRel mk op 4) (executed : ∀ rel s, exec (mk rel) s = .next (branchIf s (taken s.flags) rel))
    (decides : ∀ f, taken f = true ↔ cond f) : Branch mk op cond := by
  classical
  refine ⟨row, fun s rel => ⟨fun holds => ?_, fun fails => ?_⟩⟩
  · rw [executed, next_branchIf_of_iff (decides s.flags), if_pos holds]
  · rw [executed, next_branchIf_of_iff (decides s.flags), if_neg fails]

/-- N and V agree exactly if their exclusive or is clear: the signed condition of R252. -/
theorem not_n_xor_v_iff (f : Flags) : (!(f.n ^^ f.v)) = true ↔ f.n = f.v := by
  rw [Bool.not_eq_true', ← Bool.not_eq_true, Bool.xor_iff_ne, not_ne_iff]

/-- Settles O26: the condition of each branch, BRA's included, as a Boolean of C, Z and V. -/
theorem branchResultsOnCarryZeroOverflow : Obligations.BranchResultsOnCarryZeroOverflow :=
  ⟨branch_of_iff (fun _ => true) (fun _ => ⟨rfl, rfl⟩) exec_bra fun _ => iff_of_true rfl trivial,
    branch_of_iff (fun f => !f.c && !f.z) (fun _ => ⟨rfl, rfl⟩) exec_bhi fun _ => by
      rw [Bool.and_eq_true, Bool.not_eq_true', Bool.not_eq_true'],
    branch_of_iff (fun f => f.c || f.z) (fun _ => ⟨rfl, rfl⟩) exec_bls fun _ => Bool.or_eq_true_iff,
    branch_of_iff (fun f => !f.c) (fun _ => ⟨rfl, rfl⟩) exec_bcc fun _ => .of_eq (Bool.not_eq_true' _),
    branch_of_iff Flags.c (fun _ => ⟨rfl, rfl⟩) exec_bcs fun _ => .rfl,
    branch_of_iff (fun f => !f.z) (fun _ => ⟨rfl, rfl⟩) exec_bne fun _ => .of_eq (Bool.not_eq_true' _),
    branch_of_iff Flags.z (fun _ => ⟨rfl, rfl⟩) exec_beq fun _ => .rfl,
    branch_of_iff (fun f => !f.v) (fun _ => ⟨rfl, rfl⟩) exec_bvc fun _ => .of_eq (Bool.not_eq_true' _),
    branch_of_iff Flags.v (fun _ => ⟨rfl, rfl⟩) exec_bvs fun _ => .rfl⟩

/-- Settles O27: the condition of each branch as a Boolean of N, Z and N xor V. -/
theorem branchResultsOnSign : Obligations.BranchResultsOnSign :=
  ⟨branch_of_iff (fun f => !f.n) (fun _ => ⟨rfl, rfl⟩) exec_bpl fun _ => .of_eq (Bool.not_eq_true' _),
    branch_of_iff Flags.n (fun _ => ⟨rfl, rfl⟩) exec_bmi fun _ => .rfl,
    branch_of_iff (fun f => !(f.n ^^ f.v)) (fun _ => ⟨rfl, rfl⟩) exec_bge not_n_xor_v_iff,
    branch_of_iff (fun f => f.n ^^ f.v) (fun _ => ⟨rfl, rfl⟩) exec_blt fun _ => Bool.xor_iff_ne,
    branch_of_iff (fun f => !f.z && !(f.n ^^ f.v)) (fun _ => ⟨rfl, rfl⟩) exec_bgt fun f => by
      rw [Bool.and_eq_true, Bool.not_eq_true', not_n_xor_v_iff],
    branch_of_iff (fun f => f.z || (f.n ^^ f.v)) (fun _ => ⟨rfl, rfl⟩) exec_ble fun f => by
      rw [Bool.or_eq_true, Bool.xor_iff_ne]⟩

/-! ### Words on the stack -/

/-- A word pushed: its low byte at SP, its high byte below, and SP 2 less (10_state.md R33). -/
theorem push16_eq_write8 (s : State) (w : Word) :
    push16 s w = (write8 (write8 s s.sp (lo8 w)) (s.sp - 1) (hi8 w)).setSp (s.sp - 2) := by
  simp [push16, push8, BitVec.sub_sub]

/-- A word pulled: its high byte above SP, its low byte above that, each read with SP already there (R33). -/
theorem pull16_eq_read8 (s : State) : pull16 s =
    let h := read8 (s.setSp (s.sp + 1)) (s.sp + 1)
    let l := read8 (h.2.setSp (s.sp + 2)) (s.sp + 2)
    (join h.1 l.1, l.2) := by
  simp [pull16, pull8, BitVec.add_assoc]

/-- A pull neither reads nor writes PC. -/
theorem pull8_setPc (s : State) (w : Word) : pull8 (s.setPc w) = ((pull8 s).1, (pull8 s).2.setPc w) :=
  read8_setPc (s.setSp (s.sp + 1)) w _

theorem pull16_setPc (s : State) (w : Word) : pull16 (s.setPc w) = ((pull16 s).1, (pull16 s).2.setPc w) := by
  simp only [pull16, pull8_setPc]

/-- A pull from two backed cells gives their bytes and moves SP alone (20_memory.md R66). -/
theorem pull16_backed (s : State) (high : backed s.cfg (s.sp + 1) = true) (low : backed s.cfg (s.sp + 2) = true) :
    pull16 s = (join (memGet s.mem (s.sp + 1).toNat) (memGet s.mem (s.sp + 2).toNat), s.setSp (s.sp + 2)) := by
  simp only [pull16_eq_read8, read8_setSp, read8_backed s _ high, read8_backed s _ low, State.setSp_setSp]

/-- A push to two read-write cells changes memory and SP alone. -/
theorem push16_setSp_of_writable {s : State} (w : Word) (low : Writable s s.sp) (high : Writable s (s.sp - 1)) :
    (push16 s w).setSp s.sp = s.setMem (push16 s w).mem := by
  have high' : Writable (write8 s s.sp (lo8 w)) (s.sp - 1) := (writable_congr (write8_cfg ..) _).mpr high
  rw [push16_eq_write8, write8_of_writable high', write8_of_writable low]
  rfl

/-- The bytes of a word pushed to two read-write cells. -/
theorem memGet_push16_of_writable {s : State} (w : Word) (wf : Memory.wf s.mem = true) (low : Writable s s.sp)
    (high : Writable s (s.sp - 1)) : memGet (push16 s w).mem s.sp.toNat = lo8 w ∧
      memGet (push16 s w).mem (s.sp - 1).toNat = hi8 w := by
  have wf' : Memory.wf (write8 s s.sp (lo8 w)).mem = true := (write8_kept s s.sp (lo8 w)).wf wf
  have high' : Writable (write8 s s.sp (lo8 w)) (s.sp - 1) := (writable_congr (write8_cfg ..) _).mpr high
  have apart : s.sp.toNat ≠ (s.sp - 1).toNat := by bv_omega
  simp only [push16_eq_write8, State.setSp_mem, memGet_write8_of_writable wf' high', memGet_write8_of_writable wf low,
    if_pos, if_neg apart, and_self]

/-- A word pushed to two read-write cells is pulled again, with nothing changed but these cells. -/
theorem pull16_push16 {s : State} (w : Word) (wf : Memory.wf s.mem = true) (low : Writable s s.sp)
    (high : Writable s (s.sp - 1)) : pull16 (push16 s w) = (w, s.setMem (push16 s w).mem) := by
  have cellHigh : (push16 s w).sp + 1 = s.sp - 1 := by rw [push16_sp, BitVec.sub_add_cancel]
  have cellLow : (push16 s w).sp + 2 = s.sp := by rw [push16_sp]; bv_omega
  obtain ⟨lo, hi⟩ := memGet_push16_of_writable w wf low high
  rw [pull16_backed, cellHigh, cellLow, lo, hi, join_hi8_lo8, push16_setSp_of_writable w low high]
  · rw [cellHigh, push16_cfg]
    exact backed_of_writable high
  · rw [cellLow, push16_cfg]
    exact backed_of_writable low

/-! ### Calls, jumps and returns -/

/-- Settles O29: a call is `push16_eq_write8` with the target of the form, a return `pull16_eq_read8`. -/
theorem callJumpReturnResults : Obligations.CallJumpReturnResults := by
  refine ⟨fun _ => ⟨rfl, rfl⟩, rowsMem_of_forms (fun _ => row_of_hasRow rfl nofun) rfl,
    rowsMem_of_forms (fun _ => row_of_hasRow rfl nofun) rfl, ⟨rfl, rfl⟩, ⟨rfl, rfl⟩, fun _ => ⟨rfl, rfl⟩,
    fun s m rel op => ⟨?_, ?_, exec_jmp m s, ?_, exec_nop s, exec_unimpl op s⟩⟩
  · rw [exec_bsr, execBsr, callTo, push16_eq_write8, target_eq_add_sext16]
  · rw [exec_jsr, execJsr, callTo, push16_eq_write8]
  · rw [exec_rts, execRts, pull16_eq_read8]

/-- RTS in the state that a call leaves, whatever the target: PC is that of before the call (R256, R258, R259). -/
theorem exec_rts_callTo {s : State} (target : Word) (wf : Memory.wf s.mem = true) (low : Writable s s.sp)
    (high : Writable s (s.sp - 1)) : exec .rts (callTo s target) = .next (s.setMem (callTo s target).mem) := by
  rw [exec_rts, execRts, callTo, pull16_setPc, pull16_push16 s.pc wf low high]
  rfl

/-- Settles O30: JSR and BSR are calls with different targets. -/
theorem returnUndoesCall : Obligations.ReturnUndoesCall := by
  intro s t i wf low high call executed
  obtain ⟨m, rfl⟩ | ⟨rel, rfl⟩ := call
  · cases executed
    exact exec_rts_callTo (eaLoc s m) wf low high
  · cases executed
    exact exec_rts_callTo (s.pc + sext16 rel) wf low high

end Sys2Proof.Machine
end

section
/-! The register frame on the stack: pushed, pulled, and pulled after it was pushed (44_system_flags_stack.md R288,
R289). -/

namespace Sys2Proof.Machine

open Sys2Proof.Spec

/-! ### The CC byte -/

/-- The eight bits of the CC byte as a number (10_state.md R31). -/
theorem pack_eq_ccByte (f : Flags) : f.pack = ccByte f := by
  apply BitVec.eq_of_toNat_eq
  simp only [Flags.pack, ccByte, append_toNat, BitVec.toNat_ofBool, BitVec.toNat_ofNat]
  have := f.h.toNat_le
  have := f.i.toNat_le
  have := f.n.toNat_le
  have := f.z.toNat_le
  have := f.v.toNat_le
  have := f.c.toNat_le
  omega

theorem unpack_eq_ccFlags (v : Byte) : Flags.unpack v = ccFlags v := rfl

theorem unpack_pack (f : Flags) : Flags.unpack f.pack = f := by
  simp only [Flags.unpack, Flags.pack, BitVec.getLsbD_append]
  simp

/-- Bits 7 and 6 of a byte written to CC are lost, and read as 1 (R31). -/
theorem pack_unpack (v : Byte) : (Flags.unpack v).pack = v ||| 0xC0 := by
  refine BitVec.eq_of_getLsbD_eq fun i hi => ?_
  simp only [Flags.unpack, Flags.pack, BitVec.getLsbD_append, BitVec.getLsbD_or]
  interval_cases i <;> simp

theorem ccFlags_ccByte (f : Flags) : ccFlags (ccByte f) = f := by
  rw [← pack_eq_ccByte]
  exact unpack_pack f

/-! ### The writes and the reads -/

/-- Seven pushes are seven writes from SP down (R288). -/
theorem pushAll_eq_framePushed (s : State) : pushAll s = framePushed s := by
  simp [pushAll, framePushed, push16_eq_write8, push8, pack_eq_ccByte, BitVec.sub_sub]

/-- The registers that a pulled frame restores, each by its update. -/
theorem State.restore_eq (t : State) (flags : Flags) (b a : Byte) (x pc sp : Word) :
    { t with flags := flags, b := b, a := a, x := x, pc := pc, sp := sp } =
      (((((t.setSp sp).setFlags flags).setB b).setA a).setX x).setPc pc := rfl

theorem State.restore_self (s : State) :
    (((((s.setSp s.sp).setFlags s.flags).setB s.b).setA s.a).setX s.x).setPc s.pc = s :=
  (State.restore_eq s s.flags s.b s.a s.x s.pc s.sp).symm

/-- Seven pulls are seven reads from above SP up (R289). -/
theorem pullAll_eq_framePulled (s : State) : pullAll s = framePulled s := by
  rw [framePulled, State.restore_eq]
  simp [pullAll, pull8_eq_read8, pull16_eq_read8, join_eq_ofNat, unpack_eq_ccFlags, BitVec.add_assoc]

/-! ### Several writes, one after the other -/

/-- The cells written in their order. -/
def writeCells (s : State) (cells : List (Word × Byte)) : State := cells.foldl (fun t c => write8 t c.1 c.2) s

theorem writeCells_cons (s : State) (c : Word × Byte) (cells : List (Word × Byte)) :
    writeCells s (c :: cells) = writeCells (write8 s c.1 c.2) cells := rfl

/-- Writes to read-write cells change memory alone (20_memory.md R67). -/
theorem writeCells_of_writable {s : State} {cells : List (Word × Byte)} (writable : ∀ c ∈ cells, Writable s c.1) :
    writeCells s cells = s.setMem (writeCells s cells).mem := by
  induction cells generalizing s with
  | nil => rfl
  | cons c cells ih =>
    obtain ⟨first, rest⟩ := List.forall_mem_cons.mp writable
    rw [writeCells_cons, ih fun d hd => (writable_congr (write8_cfg ..) d.1).mpr (rest d hd), write8_of_writable first]
    rfl

/-- Writes leave the byte of any address that is not among theirs. -/
theorem memGet_writeCells_other (s : State) {cells : List (Word × Byte)} {a : Word} (other : a ∉ cells.map Prod.fst) :
    memGet (writeCells s cells).mem a.toNat = memGet s.mem a.toNat := by
  induction cells generalizing s with
  | nil => rfl
  | cons c cells ih =>
    obtain ⟨first, rest⟩ := not_or.mp (mt List.mem_cons.mpr other)
    rw [writeCells_cons, ih _ rest, memGet_write8_other s c.1 c.2 (mt BitVec.eq_of_toNat_eq (Ne.symm first))]

/-- After writes to read-write cells at distinct addresses, each cell holds its byte. -/
theorem memGet_writeCells_of_writable {s : State} {cells : List (Word × Byte)} (wf : Memory.wf s.mem = true)
    (writable : ∀ c ∈ cells, Writable s c.1) (distinct : (cells.map Prod.fst).Nodup) :
    ∀ c ∈ cells, memGet (writeCells s cells).mem c.1.toNat = c.2 := by
  induction cells generalizing s with
  | nil => nofun
  | cons c cells ih =>
    obtain ⟨first, rest⟩ := List.forall_mem_cons.mp writable
    obtain ⟨apart, distinct⟩ := List.nodup_cons.mp distinct
    rw [writeCells_cons, List.forall_mem_cons]
    constructor
    · rw [memGet_writeCells_other _ apart, memGet_write8_of_writable wf first, if_pos rfl]
    · have writable' : ∀ d ∈ cells, Writable (write8 s c.1 c.2) d.1 :=
        fun d hd => (writable_congr (write8_cfg ..) d.1).mpr (rest d hd)
      exact ih ((write8_kept s c.1 c.2).wf wf) writable' distinct

/-! ### The frame in read-write cells -/

/-- The seven cells of a register frame with their bytes, in the order of the writes (R288). -/
def frameCells (s : State) : List (Word × Byte) :=
  [(s.sp, lo8 s.pc), (s.sp - 1, hi8 s.pc), (s.sp - 2, lo8 s.x), (s.sp - 3, hi8 s.x), (s.sp - 4, s.a), (s.sp - 5, s.b),
    (s.sp - 6, ccByte s.flags)]

theorem framePushed_eq_writeCells (s : State) : framePushed s = (writeCells s (frameCells s)).setSp (s.sp - 7) := rfl

theorem framePushed_sp (s : State) : (framePushed s).sp = s.sp - 7 := by rw [framePushed_eq_writeCells, State.setSp_sp]

theorem framePushed_flags (s : State) : (framePushed s).flags = s.flags := pushAll_eq_framePushed s ▸ pushAll_flags s

theorem frameCells_addresses (s : State) : (frameCells s).map Prod.fst = frameAddresses s := rfl

/-- A frame is shorter than the address space, so it does not run into itself. -/
theorem frameAddresses_nodup (s : State) : (frameAddresses s).Nodup := by
  have offsets : frameAddresses s = ([0, 1, 2, 3, 4, 5, 6] : List Word).map (s.sp - ·) := by simp [frameAddresses]
  rw [offsets]
  exact List.Nodup.map sub_right_injective (by decide)

section

variable {s : State} (wf : Memory.wf s.mem = true) (writable : ∀ a ∈ frameAddresses s, Writable s a)

include writable

theorem frameCells_writable : ∀ c ∈ frameCells s, Writable s c.1 :=
  fun c hc => writable c.1 (frameCells_addresses s ▸ List.mem_map_of_mem hc)

/-- A frame pushed to read-write cells changes memory and SP alone. -/
theorem framePushed_of_writable : framePushed s = (s.setMem (framePushed s).mem).setSp (s.sp - 7) := by
  rw [framePushed_eq_writeCells, State.setSp_mem, ← writeCells_of_writable (frameCells_writable writable)]

include wf

/-- Each cell of a frame pushed to read-write cells holds its byte. -/
theorem memGet_framePushed : ∀ c ∈ frameCells s, memGet (framePushed s).mem c.1.toNat = c.2 := by
  rw [framePushed_eq_writeCells, State.setSp_mem]
  exact memGet_writeCells_of_writable wf (frameCells_writable writable) (frameAddresses_nodup s)

/-- Where each byte of the frame lies. -/
theorem map_memGet_framePushed : (frameAddresses s).map (fun a => memGet (framePushed s).mem a.toNat) =
    [lo8 s.pc, hi8 s.pc, lo8 s.x, hi8 s.x, s.a, s.b, ccByte s.flags] := by
  rw [← frameCells_addresses, List.map_map]
  exact List.map_congr_left (memGet_framePushed wf writable)

/-- A cell of the frame is read back with its byte, and nothing else happens. -/
theorem read8_framePushed : ∀ c ∈ frameCells s, read8 (framePushed s) c.1 = (c.2, framePushed s) := by
  intro c hc
  have kept : (framePushed s).cfg = s.cfg := by rw [framePushed_of_writable writable, State.setSp_cfg, State.setMem_cfg]
  have backed := backed_of_writable ((writable_congr kept c.1).mpr (frameCells_writable writable c hc))
  rw [read8_backed _ _ backed, memGet_framePushed wf writable c hc]

/-- Pulling a frame from the read-write cells it was pushed to restores every register and flag. -/
theorem framePulled_framePushed : framePulled (framePushed s) = s.setMem (framePushed s).mem := by
  have cells := read8_framePushed wf writable
  simp only [frameCells, List.forall_mem_cons] at cells
  obtain ⟨pcLow, pcHigh, xLow, xHigh, a, b, cc, -⟩ := cells
  have above : s.sp - 7 + 1 = s.sp - 6 ∧ s.sp - 7 + 2 = s.sp - 5 ∧ s.sp - 7 + 3 = s.sp - 4 ∧ s.sp - 7 + 4 = s.sp - 3 ∧
      s.sp - 7 + 5 = s.sp - 2 ∧ s.sp - 7 + 6 = s.sp - 1 ∧ s.sp - 7 + 7 = s.sp := by bv_omega
  have memoryAndSp := framePushed_of_writable writable
  rw [framePulled, State.restore_eq]
  simp only [framePushed_sp, above, pcLow, pcHigh, xLow, xHigh, a, b, cc, ccFlags_ccByte, ← join_eq_ofNat, join_hi8_lo8]
  generalize (framePushed s).mem = m at memoryAndSp ⊢
  rw [memoryAndSp, State.setSp_setSp]
  exact State.restore_self (s.setMem m)

end

/-- Settles O10: a frame pushed and pulled is seven writes and seven reads, and what these do in read-write cells. -/
theorem registerFramePushThenPull : Obligations.RegisterFramePushThenPull := by
  refine ⟨fun f => ⟨pack_eq_ccByte f, unpack_pack f⟩, fun v => ⟨unpack_eq_ccFlags v, pack_unpack v⟩,
    fun s => ⟨pushAll_eq_framePushed s, pullAll_eq_framePulled s⟩, fun s wf writable => ?_⟩
  rw [pullAll_eq_framePulled, pushAll_eq_framePushed]
  exact ⟨framePushed_sp s, map_memGet_framePushed wf writable, framePulled_framePushed wf writable⟩

end Sys2Proof.Machine
end

section
/-! Flag instructions, SWI, RTI and WAI (44_system_flags_stack.md). -/

namespace Sys2Proof.Machine

open Sys2Proof.Spec

/-- Settles O31: the flag instructions as they are, and the CC byte in bits (TAP) and as a number (TPA). -/
theorem flagInstructionResults : Obligations.FlagInstructionResults := by
  refine ⟨⟨rfl, rfl⟩, ⟨rfl, rfl⟩, ⟨rfl, rfl⟩, ⟨rfl, rfl⟩, ⟨rfl, rfl⟩, ⟨rfl, rfl⟩, ⟨rfl, rfl⟩, ⟨rfl, rfl⟩,
    fun s => ⟨exec_clc s, exec_sec s, exec_clv s, exec_sev s, exec_cli s, exec_sei s, exec_tap s, ?_⟩⟩
  rw [exec_tpa, execTpa, pack_eq_ccByte, ccByte]

/-- Settles O32: the frame as seven writes or reads, under the vector read of SWI and the `parked` of WAI. -/
theorem softwareInterruptReturnAndWaitResults : Obligations.SoftwareInterruptReturnAndWaitResults := by
  refine ⟨⟨rfl, rfl⟩, ⟨rfl, rfl⟩, ⟨rfl, rfl⟩, rfl, fun s => ⟨?_, ?_, ?_⟩⟩
  · simp only [exec_swi, execSwi, enterInterrupt, if_true, pushAll_eq_framePushed, framePushed_flags]
  · rw [exec_rti, execRti, pullAll_eq_framePulled]
  · rw [exec_wai, execWai, pushAll_eq_framePushed]

end Sys2Proof.Machine
end

section
/-! The MB8861 extension (45_mb8861_extension.md). -/

namespace Sys2Proof.Machine

open Sys2Proof.Spec

/-! ### ADX -/

/-- The sign of a word is its bit 15. -/
theorem word_getLsbD_fifteen (w : Word) : w.getLsbD 15 = w.msb := (BitVec.msb_eq_getLsbD_last w).symm

/-- Operands of one sign and a sum of the other: bit 15 of `(x xor r) and (w xor r)` (R315). -/
theorem overflow_add16_bit (x w r : Word) :
    ((x ^^^ r) &&& (w ^^^ r)).getLsbD 15 = (x.msb == w.msb && r.msb != x.msb) := by
  simp only [word_getLsbD_fifteen, BitVec.msb_and, BitVec.msb_xor]
  cases x.msb <;> cases w.msb <;> cases r.msb <;> rfl

/-- The addition of R315: its sum modulo 65536, and its flags in bits. -/
theorem add16_eq (x w : Word) (f : Flags) : add16 x w f = (x + w, { f with
    n := (x + w).getLsbD 15
    z := decide (x + w = 0)
    v := ((x ^^^ (x + w)) &&& (w ^^^ (x + w))).getLsbD 15
    c := decide (x.toNat + w.toNat > 65535) }) := by
  have sum : BitVec.ofNat 16 (x.toNat + w.toNat) = x + w := rfl
  simp only [add16, sum, overflow_add16_bit]
  simp only [word_getLsbD_fifteen, ← beq_eq_decide, gt_iff_lt]

/-- The immediate addend of ADX is unsigned (R315). -/
theorem operandAdx_imm (s : State) (v : Byte) : operandAdx s (.imm v) = (BitVec.ofNat 16 v.toNat, s) :=
  congrArg (·, s) (eaDir_eq_ofNat v)

/-! ### The decided `EXT_FLAGS` -/

/-- The decided instance lists no differences from the defaults of R311 to R314. -/
theorem extFlags_decided (imm r : Byte) (f : Flags) :
    nimFlags decidedParams.extFlags r f = nimDefault r f ∧ oimFlags decidedParams.extFlags r f = oimDefault r f ∧
      ximFlags decidedParams.extFlags r f = ximDefault r f ∧
      tmmFlags decidedParams.extFlags imm r f = tmmDefault imm r f :=
  ⟨rfl, rfl, rfl, rfl⟩

/-- The three-way test of R314, each flag by itself. -/
theorem tmmDefault_eq (imm m : Byte) (f : Flags) : tmmDefault imm m f = { f with
    n := decide (imm ≠ 0 ∧ m ≠ 0 ∧ m ≠ 0xFF)
    z := decide (imm = 0 ∨ m = 0)
    v := decide (imm ≠ 0 ∧ m = 0xFF) } := by
  unfold tmmDefault
  split_ifs with untested full
  · obtain rfl | rfl := untested <;> simp
  · subst full
    simpa using untested
  · simp_all

/-! ### Results, flags, encodings and costs -/

/-- Settles O33: the rows, the instructions at the indexed address, the functions of `EXT_FLAGS` as any and as decided, and
the addition of ADX for its two sources. -/
theorem extensionResults : Obligations.ExtensionResults := by
  refine ⟨fun _ _ => ⟨rfl, rfl⟩, fun _ _ => ⟨rfl, rfl⟩, fun _ _ => ⟨rfl, rfl⟩, fun _ _ => ⟨rfl, rfl⟩,
    fun _ => ⟨rfl, rfl⟩, fun _ => ⟨rfl, rfl⟩, fun s v off => ?_⟩
  simp only [← eaIdx_eq_ofNat]
  refine ⟨exec_nim v off s, exec_oim v off s, exec_xim v off s, exec_tmm v off s, ?kept, fun decided r => ?decided, ?adx⟩
  case kept =>
    simp only [List.forall_mem_cons]
    exact ⟨nimFlags_kept .., oimFlags_kept .., ximFlags_kept .., tmmFlags_kept .., nofun⟩
  case decided =>
    have bit : (r != 0) = decide (r ≠ 0) := by rw [bne, beq_eq_decide, decide_not]
    obtain ⟨nim, oim, xim, tmm⟩ := extFlags_decided v r s.flags
    rw [decided, nim, oim, xim, tmm, tmmDefault_eq]
    simp only [nimDefault, oimDefault, ximDefault, bit, beq_eq_decide, and_self]
  case adx =>
    intro o
    rw [exec_adx, execAdx, add16_eq]
    cases o with
    | imm b => rw [operandAdx_imm]
    | ext a => rfl

end Sys2Proof.Machine
end

section
/-! One elapsed cycle of the chip: the timers, then the shift register (60_exceptions.md R351 to R357). -/

namespace Sys2Proof.Machine

open Sys2Proof.Spec

/-! ### The timers in one cycle -/

/-- A timer cycle in the words of R352: the timer after it, and whether it underflowed. -/
theorem timerCycle_eq (freeRun : Bool) (t : Timer) :
    timerCycle freeRun t = (timerAfterCycle freeRun t, underflows t) := by
  obtain ⟨counter, latch, armed⟩ := t
  cases armed with
  | false => simp [timerCycle, timerAfterCycle, underflows]
  | true =>
    by_cases zero : counter = 0
    · cases freeRun <;> simp [timerCycle, timerAfterCycle, underflows, zero]
    · have positive : counter.toNat ≠ 0 := fun h => zero (BitVec.eq_of_toNat_eq h)
      have pred : counter - 1 = BitVec.ofNat 16 (counter.toNat - 1) := by bv_omega
      simp only [timerCycle, timerAfterCycle, underflows, pred]
      rw [if_neg nofun, if_pos zero, if_neg nofun, if_pos positive]
      simp [positive]

/-- The chip after a cycle of timer 1 alone: an underflow raises its flag (R354). -/
def Via.afterT1 (v : Via) : Via := { v with
  t1 := timerAfterCycle (v.acr.getLsbD 6) v.t1
  ifr := v.ifr ||| if underflows v.t1 then 0x40 else 0 }

/-- The chip after a cycle of timer 2 alone: an underflow raises its flag (R355). -/
def Via.afterT2 (v : Via) : Via := { v with
  t2 := timerAfterCycle v.t2FreeRun v.t2
  ifr := v.ifr ||| if underflows v.t2 then 0x20 else 0 }

theorem Via.t1Cycle_eq (v : Via) : v.t1Cycle = (v.afterT1, underflows v.t1) := by
  simp only [Via.t1Cycle, Via.t1FreeRun, timerCycle_eq, Via.afterT1]
  cases underflows v.t1 <;> simp [Via.raise, flagT1]

theorem Via.t2Cycle_eq (v : Via) : v.t2Cycle = (v.afterT2, underflows v.t2) := by
  simp only [Via.t2Cycle, timerCycle_eq, Via.afterT2]
  cases underflows v.t2 <;> simp [Via.raise, flagT2]

/-- One elapsed cycle (R351); in pulse mode, bit 5 of ACR, timer 2 stands (R355). -/
theorem Via.cycle_eq (v : Via) : v.cycle =
    if v.acr.getLsbD 5 then v.afterT1.srCycle false else v.afterT1.afterT2.srCycle (underflows v.t2) := by
  simp only [Via.cycle, Via.t1Cycle_eq, Via.t2Cycle_eq]
  rfl

/-! ### What the shift register leaves alone in a cycle -/

/-- A shift raises no flag but its own (R356). -/
theorem Via.srTally_ifr (v : Via) (before : Nat) :
    (v.srTally before).ifr = v.ifr ∨ (v.srTally before).ifr = v.ifr ||| flagSr := by
  simp only [Via.srTally]
  split
  · exact .inr rfl
  · exact .inl rfl

theorem Via.srShift_ifr (v : Via) : v.srShift.ifr = v.ifr ∨ v.srShift.ifr = v.ifr ||| flagSr := by
  unfold Via.srShift
  split
  · exact .inl rfl
  · rw [Via.srMove_frame]
    exact Via.srTally_ifr _ _

/-- The part of a cycle after the timers shifts or does nothing (R351). -/
theorem Via.srCycle_cases (v : Via) (u2 : Bool) : v.srCycle u2 = v.srShift ∨ v.srCycle u2 = v := by
  unfold Via.srCycle
  split
  · exact .inl rfl
  · split
    · exact .inl rfl
    · exact .inr rfl

section
variable (v : Via) (u2 : Bool)

/-- After the timers a cycle changes the register, its count and flag, the output line and its report. -/
theorem Via.srCycle_frame : ∃ sr count ifr out log, v.srCycle u2 =
    { v with sr := sr, srCount := count, ifr := ifr, cb2Out := out, portLog := log } := by
  rcases v.srCycle_cases u2 with h | h <;> rw [h]
  · exact v.srShift_frame
  · exact ⟨_, _, _, _, _, rfl⟩

@[simp] theorem Via.srCycle_t1 : (v.srCycle u2).t1 = v.t1 := by
  obtain ⟨_, _, _, _, _, frame⟩ := v.srCycle_frame u2
  rw [frame]

@[simp] theorem Via.srCycle_t2 : (v.srCycle u2).t2 = v.t2 := by
  obtain ⟨_, _, _, _, _, frame⟩ := v.srCycle_frame u2
  rw [frame]

@[simp] theorem Via.srCycle_t2FreeRun : (v.srCycle u2).t2FreeRun = v.t2FreeRun := by
  obtain ⟨_, _, _, _, _, frame⟩ := v.srCycle_frame u2
  rw [frame]

@[simp] theorem Via.srCycle_acr : (v.srCycle u2).acr = v.acr := by
  obtain ⟨_, _, _, _, _, frame⟩ := v.srCycle_frame u2
  rw [frame]

/-- After the timers a cycle raises at most the shift register's flag. -/
theorem Via.srCycle_ifr : (v.srCycle u2).ifr = v.ifr ∨ (v.srCycle u2).ifr = v.ifr ||| flagSr := by
  rcases v.srCycle_cases u2 with h | h <;> rw [h]
  · exact v.srShift_ifr
  · exact .inl rfl

end

/-! ### One cycle, field by field -/

@[simp] theorem Via.cycle_acr (v : Via) : v.cycle.acr = v.acr := by
  rw [Via.cycle_eq]
  split <;> simp [Via.afterT1, Via.afterT2]

@[simp] theorem Via.cycle_t2FreeRun (v : Via) : v.cycle.t2FreeRun = v.t2FreeRun := by
  rw [Via.cycle_eq]
  split <;> simp [Via.afterT1, Via.afterT2]

theorem Via.cycle_t1 (v : Via) : v.cycle.t1 = timerAfterCycle (v.acr.getLsbD 6) v.t1 := by
  rw [Via.cycle_eq]
  split <;> simp [Via.afterT1, Via.afterT2]

theorem Via.cycle_t2 (v : Via) (cycles : v.acr.getLsbD 5 = false) :
    v.cycle.t2 = timerAfterCycle v.t2FreeRun v.t2 := by
  rw [Via.cycle_eq, cycles]
  simp [Via.afterT1, Via.afterT2]

/-- The flags a cycle raises: those of the timers that underflow, and perhaps that of the shift register. -/
theorem Via.cycle_ifr (v : Via) : ∃ shifted : BitVec 7, (shifted = 0 ∨ shifted = flagSr) ∧
    v.cycle.ifr = v.ifr ||| (if underflows v.t1 then 0x40 else 0) |||
      (if underflows v.t2 && !v.acr.getLsbD 5 then 0x20 else 0) ||| shifted := by
  have raised {w : Via} (u2 : Bool) : ∃ shifted : BitVec 7, (shifted = 0 ∨ shifted = flagSr) ∧
      (w.srCycle u2).ifr = w.ifr ||| shifted := by
    rcases w.srCycle_ifr u2 with h | h
    · exact ⟨0, .inl rfl, by simp [h]⟩
    · exact ⟨flagSr, .inr rfl, h⟩
  rw [Via.cycle_eq]
  cases v.acr.getLsbD 5
  · simp only [Bool.false_eq_true, if_false, Bool.not_false, Bool.and_true]
    exact raised (underflows v.t2)
  · simp only [if_true, Bool.not_true, Bool.and_false, Bool.false_eq_true, if_false]
    simpa only [Via.afterT1, BitVec.ofNat_eq_ofNat, BitVec.or_zero] using raised (w := v.afterT1) false

theorem Via.cycle_flagT1 (v : Via) : v.cycle.ifr.getLsbD 6 = (v.ifr.getLsbD 6 || underflows v.t1) := by
  obtain ⟨shifted, rfl | rfl, h⟩ := v.cycle_ifr <;> rw [h]
  · cases underflows v.t1 <;> cases underflows v.t2 && !v.acr.getLsbD 5 <;> simp
  · cases underflows v.t1 <;> cases underflows v.t2 && !v.acr.getLsbD 5 <;> simp [flagSr]

theorem Via.cycle_flagT2 (v : Via) (cycles : v.acr.getLsbD 5 = false) :
    v.cycle.ifr.getLsbD 5 = (v.ifr.getLsbD 5 || underflows v.t2) := by
  obtain ⟨shifted, rfl | rfl, h⟩ := v.cycle_ifr <;> rw [h, cycles]
  · cases underflows v.t1 <;> cases underflows v.t2 <;> simp
  · cases underflows v.t1 <;> cases underflows v.t2 <;> simp [flagSr]

/-- A cycle clears no flag (10_state.md R45). -/
theorem Via.cycle_keepsFlag (v : Via) {k : Nat} (raised : v.ifr.getLsbD k = true) : v.cycle.ifr.getLsbD k = true := by
  obtain ⟨shifted, -, h⟩ := v.cycle_ifr
  simp [h, raised]

end Sys2Proof.Machine
end

section
/-! `tick(n)` (60_exceptions.md R351) and its closed form for the timers (R353). -/

namespace Sys2Proof.Machine

open Sys2Proof.Spec

theorem Via.tick_add (v : Via) (a b : Nat) : v.tick (a + b) = (v.tick a).tick b := by
  induction a generalizing v with
  | zero => rw [Nat.zero_add]; rfl
  | succ a ih => rw [Nat.succ_add]; exact ih v.cycle

/-- A tick clears no flag (10_state.md R45). -/
theorem Via.tick_keepsFlag (v : Via) (n : Nat) {k : Nat} (raised : v.ifr.getLsbD k = true) :
    (v.tick n).ifr.getLsbD k = true := by
  induction n generalizing v with
  | zero => exact raised
  | succ n ih => exact ih v.cycle (v.cycle_keepsFlag raised)

/-- Settles O55: induction on the number of cycles. -/
theorem ticksAddAndClearNoFlag : Obligations.TicksAddAndClearNoFlag :=
  fun v a b => ⟨v.tick_add a b, rfl, rfl, fun _ => v.tick_keepsFlag a⟩

/-- No cycle: nothing has happened. -/
theorem timerAfter_zero (freeRun : Bool) (t : Timer) (flag : Bool) : TimerAfter freeRun t t flag flag 0 0 :=
  ⟨fun _ => ⟨rfl, rfl, rfl⟩, fun armed _ => ⟨by simp [← armed], rfl, rfl⟩, fun _ _ h => absurd h (Nat.not_lt_zero _),
    fun _ _ h => absurd h (Nat.not_lt_zero _)⟩

/-! The four cases of a timer cycle (R352). -/

theorem timerAfterCycle_unarmed (freeRun : Bool) (counter latch : Word) :
    timerAfterCycle freeRun ⟨counter, latch, false⟩ = ⟨counter, latch, false⟩ ∧
      underflows ⟨counter, latch, false⟩ = false := by
  simp [timerAfterCycle, underflows]

theorem timerAfterCycle_counting (freeRun : Bool) {counter : Word} (latch : Word) (positive : 0 < counter.toNat) :
    timerAfterCycle freeRun ⟨counter, latch, true⟩ = ⟨BitVec.ofNat 16 (counter.toNat - 1), latch, true⟩ ∧
      underflows ⟨counter, latch, true⟩ = false := by
  simp [timerAfterCycle, underflows, positive.ne']

theorem timerAfterCycle_oneShot {counter : Word} (latch : Word) (zero : counter.toNat = 0) :
    timerAfterCycle false ⟨counter, latch, true⟩ = ⟨0xFFFF, latch, false⟩ ∧
      underflows ⟨counter, latch, true⟩ = true := by
  simp [timerAfterCycle, underflows, zero]

theorem timerAfterCycle_freeRun {counter : Word} (latch : Word) (zero : counter.toNat = 0) :
    timerAfterCycle true ⟨counter, latch, true⟩ = ⟨latch, latch, true⟩ ∧ underflows ⟨counter, latch, true⟩ = true := by
  simp [timerAfterCycle, underflows, zero]

/-- A whole period of `l + 1` cycles counts once and leaves the place in the period. -/
theorem period_div_mod {l n : Nat} (whole : l < n) :
    n / (l + 1) = 1 + (n - l - 1) / (l + 1) ∧ n % (l + 1) = (n - l - 1) % (l + 1) := by
  obtain ⟨m, rfl⟩ := Nat.exists_eq_add_of_lt whole
  have rest : l + m + 1 - l - 1 = m := by omega
  have split : l + m + 1 = m + (l + 1) := by omega
  rw [rest, split, Nat.add_div_right m l.succ_pos, Nat.add_mod_right, Nat.add_comm 1]
  exact ⟨rfl, rfl⟩

/-- One cycle, then `n`: the closed form after `n + 1`. After an underflow in free-run the counter stands at the latch,
a whole period away from the next. -/
theorem timerAfter_succ {freeRun : Bool} {t t' : Timer} {flag flag' : Bool} {n k : Nat}
    (rest : TimerAfter freeRun (timerAfterCycle freeRun t) t' (flag || underflows t) flag' n k) :
    TimerAfter freeRun t t' flag flag' (n + 1) ((if underflows t then 1 else 0) + k) := by
  obtain ⟨counter, latch, armed⟩ := t
  cases armed with
  | false =>
    obtain ⟨after, none⟩ := timerAfterCycle_unarmed freeRun counter latch
    rw [after, none] at rest
    obtain ⟨unarmed, -⟩ := rest
    obtain ⟨rfl, rfl, rfl⟩ := unarmed rfl
    simp [TimerAfter, none]
  | true =>
    rcases counter.toNat.eq_zero_or_pos with zero | positive
    · cases freeRun with
      | false =>
        obtain ⟨after, one⟩ := timerAfterCycle_oneShot latch zero
        rw [after, one] at rest
        obtain ⟨unarmed, -⟩ := rest
        obtain ⟨rfl, rfl, rfl⟩ := unarmed rfl
        simp [TimerAfter, one, zero]
      | true =>
        obtain ⟨after, one⟩ := timerAfterCycle_freeRun latch zero
        rw [after, one] at rest
        obtain ⟨-, counting, -, periods⟩ := rest
        rcases Nat.lt_or_ge latch.toNat n with whole | part
        · obtain ⟨rfl, rfl, rfl⟩ := periods rfl rfl whole
          obtain ⟨div, mod⟩ := period_div_mod whole
          simp [TimerAfter, one, zero, div, mod]
        · obtain ⟨rfl, rfl, rfl⟩ := counting rfl part
          have inside : n < latch.toNat + 1 := Nat.lt_succ_of_le part
          simp [TimerAfter, one, zero, Nat.mod_eq_of_lt inside, Nat.div_eq_of_lt inside]
    · obtain ⟨after, none⟩ := timerAfterCycle_counting freeRun latch positive
      rw [after, none, Bool.or_false] at rest
      have pred : (BitVec.ofNat 16 (counter.toNat - 1)).toNat = counter.toNat - 1 :=
        Nat.mod_eq_of_lt ((Nat.sub_le _ _).trans_lt counter.isLt)
      have left : counter.toNat - 1 - n = counter.toNat - (n + 1) := by omega
      have past : n - (counter.toNat - 1) = n + 1 - counter.toNat := by omega
      have inside : n ≤ counter.toNat - 1 ↔ n + 1 ≤ counter.toNat := by omega
      have beyond : counter.toNat - 1 < n ↔ counter.toNat < n + 1 := by omega
      obtain ⟨-, armed⟩ := rest
      refine ⟨nofun, ?_⟩
      simpa only [none, Bool.false_eq_true, if_false, Nat.zero_add, pred, left, past, inside, beyond] using armed

theorem tick_t1 (v : Via) (n : Nat) : TimerAfter (v.acr.getLsbD 6) v.t1 (v.tick n).t1 (v.ifr.getLsbD 6)
    ((v.tick n).ifr.getLsbD 6) n (t1Underflows n v) := by
  induction n generalizing v with
  | zero => exact timerAfter_zero _ _ _
  | succ n ih =>
    have rest := ih v.cycle
    rw [Via.cycle_acr, Via.cycle_t1, Via.cycle_flagT1] at rest
    exact timerAfter_succ rest

theorem tick_t2 (v : Via) (cycles : v.acr.getLsbD 5 = false) (n : Nat) : TimerAfter v.t2FreeRun v.t2 (v.tick n).t2
    (v.ifr.getLsbD 5) ((v.tick n).ifr.getLsbD 5) n (t2Underflows n v) := by
  induction n generalizing v with
  | zero => exact timerAfter_zero _ _ _
  | succ n ih =>
    have rest := ih v.cycle (v.cycle_acr.symm ▸ cycles)
    rw [Via.cycle_t2FreeRun, Via.cycle_t2 v cycles, Via.cycle_flagT2 v cycles] at rest
    have counted := timerAfter_succ rest
    rwa [t2Underflows, cycles, Bool.not_false, Bool.and_true]

/-- Settles O54: induction on the number of cycles, one timer at a time. -/
theorem timersOverATickInClosedForm : Obligations.TimersOverATickInClosedForm :=
  fun v n => ⟨tick_t1 v n, fun cycles => tick_t2 v cycles n⟩

end Sys2Proof.Machine
end

section
/-! The line and the reads of the chip's registers (60_exceptions.md R358, R360). -/

namespace Sys2Proof.Machine

open Sys2Proof.Spec

/-- The line is high exactly when some flag and its enable are both set (R358). -/
theorem Via.irqLine_iff_exists (v : Via) :
    v.irqLine = true ↔ ∃ k < 7, v.ifr.getLsbD k = true ∧ v.ier.getLsbD k = true := by
  rw [Via.irqLine_iff, ← not_iff_not, not_not]
  refine ⟨fun zero ⟨k, _, flag, enable⟩ => ?_, fun none => BitVec.eq_of_getLsbD_eq fun k hk => ?_⟩
  · have bit : (v.ifr &&& v.ier).getLsbD k = true := by rw [BitVec.getLsbD_and, flag, enable]; rfl
    simp [zero] at bit
  · rw [BitVec.getLsbD_and, BitVec.ofNat_eq_ofNat, BitVec.getLsbD_zero, Bool.and_eq_false_iff]
    by_contra both
    simp only [not_or, Bool.not_eq_false] at both
    exact none ⟨k, hk, both⟩

/-- A pin shows the output where the direction bit is 1 and the input where it is 0 (R369). -/
theorem portPins_getLsbD (output direction input : Byte) {k : Nat} (hk : k < 8) :
    (portPins output direction input).getLsbD k =
      if direction.getLsbD k then output.getLsbD k else input.getLsbD k := by
  simp only [portPins, BitVec.getLsbD_or, BitVec.getLsbD_and, BitVec.getLsbD_not, hk, decide_true, Bool.true_and]
  cases direction.getLsbD k <;> simp

/-- Only the reads of the registers 4, 8 and 0xA have a side effect (R360). -/
theorem Via.registerRead_pure (v : Via) (b7 : Bool) {reg : BitVec 4} (not4 : reg ≠ 4) (not8 : reg ≠ 8)
    (notA : reg ≠ 0xA) : (v.registerRead b7 reg).2 = v := by
  unfold Via.registerRead
  split
  case h_5 h => exact absurd (BitVec.eq_of_toNat_eq h) not4
  case h_9 h => exact absurd (BitVec.eq_of_toNat_eq h) not8
  case h_11 h => exact absurd (BitVec.eq_of_toNat_eq h) notA
  all_goals rfl

/-- The enables as read: bit 7 is `IER_READ_BIT7` (R363). -/
theorem ofBool_append_eq_ofNat (b7 : Bool) (ier : BitVec 7) :
    BitVec.ofBool b7 ++ ier = BitVec.ofNat 8 (128 * b7.toNat + ier.toNat) := by
  apply BitVec.eq_of_toNat_eq
  have := b7.toNat_le
  rw [append_toNat, BitVec.toNat_ofBool, BitVec.toNat_ofNat]
  omega

/-- The flags as read: bit 7 is the line, the others are the flags (R362). -/
theorem ofBool_append_getLsbD_seven (line : Bool) (ifr : BitVec 7) : (BitVec.ofBool line ++ ifr).getLsbD 7 = line := by
  rw [BitVec.getLsbD_append]
  simp

theorem ofBool_append_getLsbD (line : Bool) (ifr : BitVec 7) {k : Nat} (hk : k < 7) :
    (BitVec.ofBool line ++ ifr).getLsbD k = ifr.getLsbD k := by
  rw [BitVec.getLsbD_append, if_pos hk]

/-- Settles O56: register by register; halves of words and joined bytes as numbers, pins and flags bit by bit. -/
theorem chipRegisterReads : Obligations.ChipRegisterReads := by
  intro v b7 reg
  simp only [← lo8_eq_ofNat, ← hi8_eq_ofNat, ← ofBool_append_eq_ofNat]
  exact ⟨v.registerRead_pure b7, rfl, rfl, rfl, rfl, rfl, rfl, rfl, rfl, rfl, rfl, rfl, rfl, rfl,
    fun k hk => portPins_getLsbD _ _ _ hk, fun k hk => portPins_getLsbD _ _ _ hk,
    fun k hk => ofBool_append_getLsbD _ _ hk,
    (ofBool_append_getLsbD_seven v.irqLine v.ifr).symm ▸ v.irqLine_iff_exists⟩

end Sys2Proof.Machine
end

section
/-! The decision machine and the calls of the host (60_exceptions.md R320, R321, R344). -/

namespace Sys2Proof.Machine

open Sys2Proof.Spec

/-! ### The arms of a decision -/

/-- Settles O40: the guards of each arm say which mode the state is in. -/
theorem decisionPriority : Obligations.DecisionPriority := by
  refine fun s n => ⟨fun reset => ?_, fun reset halt => ?_, fun reset halt nmi => ?_,
    fun reset halt nmi irq unmasked => ?_, fun reset halt nmi noIrq parked => ?_, fun reset halt nmi noIrq awake => ?_⟩
  · simp only [decision, (mode_servicingReset_iff s).mpr reset]
  · simp only [decision, (mode_halted_iff s).mpr ⟨reset, halt⟩]
  · simp only [decision, (mode_servicingNmi_iff s).mpr ⟨reset, halt, nmi⟩]
  · simp only [decision, (mode_servicingIrq_iff s).mpr ⟨reset, halt, nmi, irq, unmasked⟩]
  · have waits : decision n s = .next (s, parkedCost s.cfg n) := by
      simp only [decision, (mode_waitingForInterrupt_iff s).mpr ⟨reset, halt, nmi, noIrq, parked⟩]
    rw [waits, parkedCost]
    exact ⟨fun decided => by rw [decided], fun k fixed => by rw [fixed]⟩
  · exact decision_of_running ⟨reset, halt, nmi, noIrq, awake⟩ n

/-! ### A call taken from the queue -/

/-- A step in which the host makes the oldest of its queued calls (log 6). -/
theorem step_queued {s : State} {k : HostCall} {rest : List HostCall} (idle : s.call = none)
    (queued : s.calls = k :: rest) : step s = hostCall k (s.setCalls rest) := by
  simp only [step, hostTurn, idle, queued]

/-- A call begins with nothing consumed, unless its budget is negative (R320). -/
theorem beginCall_of_nonneg {n : Int} (bus : Bool) (s : State) (budget : 0 ≤ n) :
    beginCall bus n s = runCall ⟨bus, n.toNat, 0⟩ s := if_neg budget.not_gt

theorem beginCall_of_neg {n : Int} (bus : Bool) (s : State) (negative : n < 0) :
    beginCall bus n s = .refused .misuse := if_pos negative

/-- Settles O48: the queued call is made, and looks at the sign of its budget first. -/
theorem negativeBudgetIsRefused : Obligations.NegativeBudgetIsRefused := by
  refine fun s n rest idle => ⟨fun negative queued => ?_, fun negative queued => ?_, fun budget queued => ?_⟩
  · exact (step_queued idle queued).trans (beginCall_of_neg true _ negative)
  · exact (step_queued idle queued).trans (beginCall_of_neg false _ negative)
  · obtain queued | queued := queued
    · rw [step_queued idle queued, hostCall, beginCall_of_nonneg true _ budget]
      exact runCall_continues _ _
    · rw [step_queued idle queued, hostCall, beginCall_of_nonneg false _ budget]
      exact runCall_continues _ _

/-! ### The course of a call -/

/-- A step within a call is a turn of its loop. -/
theorem step_of_inCall {s s' : State} {c : Call} (h : InCall s s' c) : step s = runCall c s' := by
  obtain ⟨bus, budget, consumed⟩ := c
  obtain ⟨call, rfl⟩ | ⟨idle, fresh, rest, rfl, ⟨bare, queued⟩ | ⟨ofBus, queued⟩⟩ | ⟨idle, empty, rfl, loop⟩ := h
  · simp only [step, hostTurn, call]
  · obtain rfl : consumed = 0 := fresh
    obtain rfl : bus = false := bare
    exact (step_queued idle queued).trans (beginCall_of_nonneg false _ (Int.natCast_nonneg budget))
  · obtain rfl : consumed = 0 := fresh
    obtain rfl : bus = true := ofBus
    exact (step_queued idle queued).trans (beginCall_of_nonneg true _ (Int.natCast_nonneg budget))
  · simp only [step, hostTurn, idle, empty, loop]

/-- A turn of the loop with budget left makes one decision and adds its charge (R320). -/
theorem runCall_of_decision {c : Call} {s u : State} {charge : Nat} (budget : c.consumed < c.budget)
    (decided : decision (c.budget - c.consumed) s = .next (u, charge)) :
    runCall c s = .next (afterDecision { c with consumed := c.consumed + charge } u) := by
  rw [runCall, if_pos budget, decided]

/-- The end of a bare `step`: the sum is counted and reported (R320, log 13). -/
theorem finishCall_step (budget consumed : Nat) (s : State) : finishCall ⟨false, budget, consumed⟩ s =
    ((s.setCall none).setCycles (s.cycles + consumed)).setOuts (.consumed consumed :: s.outs) := rfl

/-- The end of a `tick`: the sum is counted and forwarded, and the line routed (R344). -/
theorem finishCall_tick (budget consumed : Nat) (s : State) : finishCall ⟨true, budget, consumed⟩ s =
    routeIrq (tickPeripherals consumed s.cfg.peripherals.order
      ((s.setCall none).setCycles (s.cycles + consumed))) := rfl

/-- Ending a call that was none, with nothing consumed, changes nothing. -/
theorem setCall_none_setCycles {s : State} (idle : s.call = none) : (s.setCall none).setCycles (s.cycles + 0) = s := by
  rw [State.setCall, ← idle]
  rfl

/-- A call with no budget ends at once (R320). -/
theorem runCall_zero (bus : Bool) (s : State) : runCall ⟨bus, 0, 0⟩ s = .next (finishCall ⟨bus, 0, 0⟩ s) := rfl

theorem step_tick_zero {s : State} {rest : List HostCall} (idle : s.call = none) (queued : s.calls = .tick 0 :: rest) :
    step s = .next (routeIrq (tickPeripherals 0 s.cfg.peripherals.order (s.setCalls rest))) := by
  have same := setCall_none_setCycles (s := s.setCalls rest) idle
  rw [step_queued idle queued, hostCall, beginCall_of_nonneg _ _ le_rfl]
  refine (runCall_zero true _).trans (congrArg _ ?_)
  rw [finishCall_tick, same, State.setCalls_cfg]

theorem step_step_zero {s : State} {rest : List HostCall} (idle : s.call = none) (queued : s.calls = .step 0 :: rest) :
    step s = .next ((s.setCalls rest).setOuts (.consumed 0 :: s.outs)) := by
  have same := setCall_none_setCycles (s := s.setCalls rest) idle
  rw [step_queued idle queued, hostCall, beginCall_of_nonneg _ _ le_rfl]
  refine (runCall_zero false _).trans (congrArg _ ?_)
  rw [finishCall_step, same, State.setCalls_outs]

/-! ### The ticks of the peripherals -/

theorem tickPeripherals_eq_foldl (n : Nat) (ds : List Device) (s : State) :
    tickPeripherals n ds s = ds.foldl (fun t d => tickPeripheral n d t) s := by
  induction ds generalizing s with
  | nil => rfl
  | cons d ds ih => exact ih (tickPeripheral n d s)

theorem tickPeripherals_append (n : Nat) (ds es : List Device) (s : State) :
    tickPeripherals n (ds ++ es) s = tickPeripherals n es (tickPeripherals n ds s) := by
  simp only [tickPeripherals_eq_foldl, List.foldl_append]

/-- A device outside the core with a reaction to come raises its signals (R325, log 18). -/
theorem tickExternal_of_reaction {s : State} {es : List Signal} {rest : List (List Signal)}
    (reaction : s.reactions = es :: rest) (n id : Nat) : tickPeripheral n (.external id) s =
      applySignals es ((s.setOuts (.externalTick id n :: s.outs)).setReactions rest) := by
  simp only [tickPeripheral, tickExternal, report, State.setOuts_reactions, reaction]

/-- With no reaction to come, it is told its ticks and does nothing. -/
theorem tickExternal_silent {s : State} (silent : s.reactions = []) (n id : Nat) :
    tickPeripheral n (.external id) s = s.setOuts (.externalTick id n :: s.outs) := by
  simp only [tickPeripheral, tickExternal, report, State.setOuts_reactions, silent]

theorem tickExternals_silent {s : State} (silent : s.reactions = []) (n : Nat) (ids : List Nat) :
    tickPeripherals n (ids.map .external) s =
      s.setOuts ((ids.map (fun id => Output.externalTick id n)).reverse ++ s.outs) := by
  induction ids generalizing s with
  | nil => rfl
  | cons id ids ih =>
    rw [List.map_cons, tickPeripherals, tickExternal_silent silent,
      ih (s := s.setOuts (.externalTick id n :: s.outs)) silent]
    simp

/-- With silent devices, a tick reports them in their order and runs the chip once. -/
theorem tickPeripherals_silent {s : State} (silent : s.reactions = []) (n : Nat) (p : Peripherals) :
    tickPeripherals n p.order s = (s.setVia (s.via.tick n)).setOuts
      (((p.before ++ p.after).map (fun id => Output.externalTick id n)).reverse ++ s.outs) := by
  rw [Peripherals.order, tickPeripherals_append, tickExternals_silent silent, tickPeripherals,
    tickExternals_silent (by exact silent)]
  simp only [List.map_append, List.reverse_append, List.append_assoc]
  rfl

/-! ### The end of every call -/

/-- Where every cost is positive, so is that of every instruction (70_reset_and_hazards.md R421). -/
theorem instrCost_pos {p : Params} (table : ∀ n ∈ p.cyc, 0 < n) (other : 0 < p.cycUnimpl) (i : Instr) :
    0 < instrCost p i := by
  have listed (k : Nat) : 0 < p.cyc.getD k p.cycUnimpl := by
    rw [List.getD_eq_getElem?_getD]
    cases found : p.cyc[k]? with
    | none => exact other
    | some n => exact table n (List.mem_of_getElem? found)
  unfold instrCost
  split
  · exact other
  · exact listed _

/-- Where every cost is positive, every decision with budget left charges something (R321, R333, R421). -/
theorem decision_charge_pos {n charge : Nat} {s u : State} (positive : s.cfg.costsPositive = true) (budget : 0 < n)
    (decided : decision n s = .next (u, charge)) : 0 < charge := by
  simp only [Params.costsPositive, Bool.and_eq_true, List.all_eq_true, decide_eq_true_eq] at positive
  obtain ⟨⟨⟨⟨⟨⟨table, reset⟩, nmi⟩, irq⟩, halt⟩, unimpl⟩, parked⟩ := positive
  rcases decision_cases decided with ⟨-, -, rfl⟩ | ⟨-, -, rfl⟩ | ⟨-, -, rfl⟩ | ⟨-, -, rfl⟩ | ⟨-, -, rfl⟩ | ⟨-, -, rfl⟩
  · exact reset
  · exact halt
  · exact nmi
  · exact irq
  · unfold parkedCost
    cases charge : s.cfg.parkedCharge with
    | remainingBudget => exact budget
    | fixed k =>
      rw [charge] at parked
      exact of_decide_eq_true parked
  · exact instrCost_pos table unimpl _

theorem finishCall_call (c : Call) (s : State) : (finishCall c s).call = none := by
  obtain ⟨bus, budget, consumed⟩ := c
  cases bus with
  | false => rfl
  | true =>
    rw [finishCall_tick]
    exact ((tickPeripherals_kept _ _ _).trans (routeIrq_kept _)).call

/-- One step, then `k` more. -/
theorem run_succ {M : Host.Core} {s u : M.State} (next : M.step s = .next u) (k : Nat) :
    M.run (k + 1) s = M.run k u := by
  rw [Host.Core.run, next]

/-- A call ends within as many decisions as it has cycles left (R320, R421): each charges at least one. -/
theorem call_ends (left : Nat) : ∀ (s : State) (c : Call), s.cfg.costsPositive = true → s.call = some c →
    c.consumed < c.budget → c.budget - c.consumed ≤ left → ∃ (k : Nat) (t : State), k ≤ c.budget - c.consumed ∧
      Host.Core.run Sys2Proof.core k s = Host.Outcome.next t ∧ t.call = none := by
  induction left with
  | zero => intro s c _ _ budget bound; omega
  | succ left ih =>
    intro s c positive call budget bound
    obtain ⟨u, charge, decided, kept⟩ := decision_kept (c.budget - c.consumed) s
    have charged := decision_charge_pos positive (Nat.sub_pos_of_lt budget) decided
    have next := (step_of_inCall (.inl ⟨call, rfl⟩)).trans (runCall_of_decision budget decided)
    by_cases more : c.consumed + charge < c.budget
    · rw [afterDecision, if_pos more] at next
      obtain ⟨k, t, steps, run, ended⟩ := ih (u.setCall (some { c with consumed := c.consumed + charge })) _
        (kept.cfg.symm ▸ positive) rfl more (by simp only; omega)
      exact ⟨k + 1, t, by simp only at steps; omega, (run_succ (M := Sys2Proof.core) next k).trans run, ended⟩
    · rw [afterDecision, if_neg more] at next
      exact ⟨1, _, Nat.sub_pos_of_lt budget, run_succ (M := Sys2Proof.core) next 0, finishCall_call _ u⟩

/-- Settles O50: the turn of a call's loop, the fold over the peripherals, and induction on the cycles left. -/
theorem callsEndWithinTheirBudget : Obligations.CallsEndWithinTheirBudget := by
  refine ⟨fun s rest idle => ⟨step_step_zero idle, step_tick_zero idle⟩,
    fun s s' u c charge inCall budget decided => ?_, fun s n p => ?_,
    fun s c positive call budget => call_ends _ s c positive call budget le_rfl⟩
  · have turn := (step_of_inCall inCall).trans (runCall_of_decision budget decided)
    refine ⟨fun more => ?_, fun done bare => ?_, fun done ofBus => ?_⟩
    · rw [turn, afterDecision, if_pos more]
    · rw [turn, afterDecision, if_neg done.not_gt, bare, finishCall_step]
    · rw [turn, afterDecision, if_neg done.not_gt, ofBus, finishCall_tick]
  · refine ⟨rfl, fun ds => tickPeripherals_eq_foldl n ds s, rfl, ?_, fun silent => tickPeripherals_silent silent n p,
      fun id es rest reaction => tickExternal_of_reaction reaction n id⟩
    rintro rfl
    rfl

end Sys2Proof.Machine
end

section
/-! The shift register and the chip's events (60_exceptions.md R351, R355 to R357, R372; 10_state.md R52). -/

namespace Sys2Proof.Machine

open Sys2Proof.Spec

/-! ### The shift mode as a number -/

theorem Via.srMode_eq_iff (v : Via) (m : BitVec 3) : v.srMode = m ↔ shiftMode v = m.toNat := by
  rw [BitVec.toNat_eq, Via.srMode_toNat]
  rfl

theorem Via.srOnTimer2_iff (v : Via) : v.srOnTimer2 = true ↔ shiftMode v ∈ ([0b001, 0b100, 0b101] : List Nat) := by
  simp only [Via.srOnTimer2, Bool.or_eq_true, beq_iff_eq, Via.srMode_eq_iff, List.mem_cons, List.not_mem_nil, or_false,
    or_assoc]
  rfl

theorem Via.srOnCycle_iff (v : Via) : v.srOnCycle = true ↔ shiftMode v ∈ ([0b010, 0b110] : List Nat) := by
  simp only [Via.srOnCycle, Bool.or_eq_true, beq_iff_eq, Via.srMode_eq_iff, List.mem_cons, List.not_mem_nil, or_false]
  rfl

theorem Via.srOnPulse_iff (v : Via) : v.srOnPulse = true ↔ shiftMode v = 0b011 ∨ shiftMode v = 0b111 := by
  simp only [Via.srOnPulse, Bool.or_eq_true, beq_iff_eq, Via.srMode_eq_iff]
  rfl

/-- Bit 2 of the mode tells the modes that shift out from those that shift in (R357). -/
theorem Via.srMode_bit_two (v : Via) : v.srMode.getLsbD 2 = decide (4 ≤ shiftMode v) := by
  have msb : v.srMode.msb = v.srMode.getLsbD 2 := BitVec.msb_eq_getLsbD_last v.srMode
  rw [← msb, BitVec.msb_eq_decide, Via.srMode_toNat]
  rfl

/-! ### One shift (R356) -/

/-- Bit 7 moved round to bit 0. -/
theorem shiftInto_top (sr : Byte) : shiftInto sr (sr.getLsbD 7) = sr.rotateLeft 1 := by
  refine BitVec.eq_of_getLsbD_eq fun i hi => ?_
  rw [shiftInto, BitVec.getLsbD_append, BitVec.getLsbD_rotateLeft]
  rcases i.eq_zero_or_pos with rfl | positive
  · simp
  · have inside : i - 1 < 7 := by omega
    simp [inside, hi, positive.ne']

theorem Via.srMove_in {v : Via} (mode : shiftMode v < 4) :
    v.srMove = { v with sr := BitVec.ofNat 8 (2 * v.sr.toNat + v.cb2In.toNat) } := by
  rw [Via.srMove, Via.srMode_bit_two, if_pos (decide_eq_false mode.not_ge), ofNat_double_add_bit]
  rfl

theorem Via.srMove_out {v : Via} (mode : 4 ≤ shiftMode v) : v.srMove = { v with
    sr := v.sr.rotateLeft 1, cb2Out := v.sr.getLsbD 7, portLog := .cb2 (v.sr.getLsbD 7) :: v.portLog } := by
  rw [Via.srMove, Via.srMode_bit_two, if_neg (by simp [mode]), ← shiftInto_top]

theorem Via.srTally_eq (v : Via) (before : Nat) : v.srTally before = { v with
    srCount := before + 1, ifr := if before = 7 then v.ifr ||| 0x04 else v.ifr } := by
  simp only [Via.srTally, Nat.succ.injEq]
  split <;> rfl

theorem Via.srShift_idle {v : Via} (idle : v.srCount = 8) (mode : shiftMode v ≠ 0b100) : v.srShift = v :=
  if_pos ⟨idle, mt (v.srMode_eq_iff 0b100).mp mode⟩

theorem Via.srShift_again {v : Via} (idle : v.srCount = 8) (mode : shiftMode v = 0b100) :
    v.srShift = v.srMove.srTally 0 := by
  rw [Via.srShift, if_neg fun h => h.2 ((v.srMode_eq_iff 0b100).mpr mode), if_pos idle]

theorem Via.srShift_busy {v : Via} (busy : v.srCount < 8) : v.srShift = v.srMove.srTally v.srCount := by
  rw [Via.srShift, if_neg fun h => busy.ne h.1, if_neg busy.ne]

theorem Via.srShift_in {v : Via} (busy : v.srCount < 8) (mode : shiftMode v < 4) : v.srShift = { v with
    sr := BitVec.ofNat 8 (2 * v.sr.toNat + v.cb2In.toNat)
    srCount := v.srCount + 1
    ifr := if v.srCount = 7 then v.ifr ||| 0x04 else v.ifr } := by
  rw [Via.srShift_busy busy, Via.srTally_eq, Via.srMove_in mode]

theorem Via.srShift_out {v : Via} (busy : v.srCount < 8) (mode : 4 ≤ shiftMode v) : v.srShift = { v with
    sr := v.sr.rotateLeft 1
    srCount := v.srCount + 1
    ifr := if v.srCount = 7 then v.ifr ||| 0x04 else v.ifr
    cb2Out := v.sr.getLsbD 7
    portLog := .cb2 (v.sr.getLsbD 7) :: v.portLog } := by
  rw [Via.srShift_busy busy, Via.srTally_eq, Via.srMove_out mode]

/-! ### The part of a cycle after the timers, by the mode (R351) -/

theorem Via.srCycle_onCycle {v : Via} (mode : shiftMode v ∈ ([0b010, 0b110] : List Nat)) (u2 : Bool) :
    v.srCycle u2 = v.srShift := by
  rw [Via.srCycle, v.srOnCycle_iff.mpr mode, if_pos rfl, ite_self]

theorem Via.srCycle_not_onCycle {v : Via} (mode : shiftMode v ∉ ([0b010, 0b110] : List Nat)) (u2 : Bool) :
    v.srCycle u2 = if v.srOnTimer2 && u2 then v.srShift else v := by
  rw [Via.srCycle, if_neg (c := v.srOnCycle = true) (mt v.srOnCycle_iff.mp mode)]

theorem Via.srCycle_onTimer2 {v : Via} (mode : shiftMode v ∈ ([0b001, 0b100, 0b101] : List Nat)) (u2 : Bool) :
    v.srCycle u2 = if u2 then v.srShift else v := by
  have apart : ∀ m ∈ ([0b001, 0b100, 0b101] : List Nat), m ∉ ([0b010, 0b110] : List Nat) := by decide
  rw [Via.srCycle_not_onCycle (apart _ mode), v.srOnTimer2_iff.mpr mode, Bool.true_and]

theorem Via.srCycle_other {v : Via} (notCycle : shiftMode v ∉ ([0b010, 0b110] : List Nat))
    (notTimer2 : shiftMode v ∉ ([0b001, 0b100, 0b101] : List Nat)) (u2 : Bool) : v.srCycle u2 = v := by
  rw [Via.srCycle_not_onCycle notCycle, Bool.eq_false_iff.mpr (mt v.srOnTimer2_iff.mp notTimer2), Bool.false_and,
    if_neg nofun]

/-! ### Pulses (R355, R357) -/

theorem Via.t2Pulse_idle {v : Via} (cycles : v.acr.getLsbD 5 = false) : v.t2Pulse = v :=
  if_neg (Bool.eq_false_iff.mp cycles)

theorem Via.t2Pulse_pulses {v : Via} (pulses : v.acr.getLsbD 5 = true) :
    v.t2Pulse = if v.srOnTimer2 && underflows v.t2 then v.afterT2.srShift else v.afterT2 := by
  rw [Via.t2Pulse, if_pos (show v.t2Pulses = true from pulses), Via.t2Cycle_eq]
  rfl

theorem Via.srExtPulse_other {v : Via} (not3 : shiftMode v ≠ 0b011) (not7 : shiftMode v ≠ 0b111) : v.srExtPulse = v :=
  if_neg (mt v.srOnPulse_iff.mp (not_or.mpr ⟨not3, not7⟩))

theorem Via.srExtPulse_shifts {v : Via} (mode : shiftMode v = 0b011 ∨ shiftMode v = 0b111) : v.srExtPulse = v.srShift :=
  if_pos (v.srOnPulse_iff.mpr mode)

/-! ### The events together -/

/-- Settles O58: the timers and the shift of a cycle by the mode, the pulses, one shift in each state of the register,
and the reset of the chip as a call of the host. -/
theorem chipEvents : Obligations.ChipEvents := by
  refine ⟨fun v => ⟨rfl, rfl, rfl, rfl⟩, fun v => ?_, fun v => ?_, fun s rest idle queued => ?_⟩
  · refine ⟨?_, ?_, ?_, ?_, ?_, ?_⟩
    · intro mode
      rw [Via.cycle_eq, Via.srCycle_onCycle (v := v.afterT1) mode, Via.srCycle_onCycle (v := v.afterT1.afterT2) mode]
      rfl
    · intro mode
      rw [Via.cycle_eq, Via.srCycle_onTimer2 (v := v.afterT1) mode, Via.srCycle_onTimer2 (v := v.afterT1.afterT2) mode]
      rfl
    · intro notCycle notTimer2
      rw [Via.cycle_eq, Via.srCycle_other (v := v.afterT1) notCycle notTimer2,
        Via.srCycle_other (v := v.afterT1.afterT2) notCycle notTimer2]
      rfl
    · exact Via.t2Pulse_idle
    · intro pulses mode
      rw [Via.t2Pulse_pulses pulses, v.srOnTimer2_iff.mpr mode, Bool.true_and]
      rfl
    · intro pulses mode
      rw [Via.t2Pulse_pulses pulses, Bool.eq_false_iff.mpr (mt v.srOnTimer2_iff.mp mode), Bool.false_and]
      rfl
  · refine ⟨Via.srExtPulse_other, Via.srExtPulse_shifts, Via.srShift_idle, fun idle mode => ?_, Via.srShift_in,
      Via.srShift_out⟩
    rw [Via.srShift_again idle mode, Via.srTally_eq, Via.srMove_out mode.ge]
    rfl
  · rw [step_queued idle queued]
    rfl

/-! ### Eight shifts out (R356) -/

/-- `w` is `v` after `n` shifts out of a transfer that began with `v`. -/
structure ShiftedOut (v : Via) (n : Nat) (w : Via) : Prop where
  sr : w.sr = (fun b => b.rotateLeft 1)^[n] v.sr
  count : w.srCount = n
  ifr : w.ifr = if n = 8 then v.ifr ||| 0x04 else v.ifr
  acr : w.acr = v.acr

theorem ShiftedOut.succ {v w : Via} {n : Nat} (mode : 4 ≤ shiftMode v) (more : n < 8) (h : ShiftedOut v n w) :
    ShiftedOut v (n + 1) w.srShift := by
  obtain ⟨sr, count, ifr, acr⟩ := h
  have mode' : 4 ≤ shiftMode w := by rwa [shiftMode, acr]
  rw [Via.srShift_out (count ▸ more) mode']
  constructor
  · rw [Function.iterate_succ_apply', sr]
  · rw [count]
  · simp only [ifr, count, if_neg more.ne, Nat.succ.injEq]
  · exact acr

/-- Eight rotations by one bit bring a byte round. -/
theorem rotateLeft_one_eight (b : Byte) : (fun b => b.rotateLeft 1)^[8] b = b := by
  refine BitVec.eq_of_getLsbD_eq fun i hi => ?_
  simp only [Function.iterate_succ, Function.iterate_zero, Function.comp_apply, id]
  interval_cases i <;> simp

/-- Settles O59: eight times one shift out, then the idle register. -/
theorem eightShiftsOutRotateTheRegister : Obligations.EightShiftsOutRotateTheRegister := by
  intro v fresh mode w
  have start : ShiftedOut v 0 v := ⟨rfl, fresh, rfl, rfl⟩
  have shift {n : Nat} {u : Via} (more : n < 8) (h : ShiftedOut v n u) : ShiftedOut v (n + 1) u.srShift :=
    h.succ mode.le more
  have four := shift (by decide) (shift (by decide) (shift (by decide) (shift (by decide) start)))
  have eight := shift (by decide) (shift (by decide) (shift (by decide) (shift (by decide) four)))
  obtain ⟨sr, count, ifr, acr⟩ := eight
  have mode' : shiftMode w ≠ 0b100 := by
    rw [shiftMode, acr]
    exact mode.ne'
  exact ⟨sr.trans (rotateLeft_one_eight v.sr), count, ifr, Via.srShift_idle count mode'⟩

end Sys2Proof.Machine
end

section
/-! The chip's line and the IRQ latch (60_exceptions.md R345, R358; 10_state.md R36). -/

namespace Sys2Proof.Machine

open Sys2Proof.Spec

theorem routeIrq_edge {s : State} (edge : s.cfg.irqRouting = .risingEdgePerTick) : routeIrq s =
    { s with irqPending := s.irqPending || (s.via.irqLine && !s.irqLinePrev), irqLinePrev := s.via.irqLine } := by
  simp only [routeIrq, edge]
  rfl

theorem routeIrq_level {s : State} (level : s.cfg.irqRouting = .levelPerTick) : routeIrq s =
    { s with irqPending := s.irqPending || s.via.irqLine, irqLinePrev := s.via.irqLine } := by
  simp only [routeIrq, level]
  rfl

/-- Before any routing: the IRQ latch did not rise, and the level of the last look, the routing and the reactions
to come are the same. -/
structure IrqUnraised (s t : State) : Prop where
  latch : t.irqPending = true → s.irqPending = true
  lastLook : t.irqLinePrev = s.irqLinePrev
  routing : t.cfg.irqRouting = s.cfg.irqRouting
  reactions : t.reactions = s.reactions

theorem IrqUnraised.refl (s : State) : IrqUnraised s s := ⟨id, rfl, rfl, rfl⟩

/-- Memory accesses and updates of the CPU do not raise the latch. -/
theorem IrqUnraised.accesses {s t u : State} (h : IrqUnraised s t) (accesses : Accesses t u) : IrqUnraised s u := by
  obtain ⟨a, b, x, sp, pc, flags, parked, via, mem, outs, free, rfl⟩ := accesses.frame
  exact ⟨h.latch, h.lastLook, h.routing, h.reactions⟩

/-- No arm of a decision raises the latch; reset and the IRQ service clear it (R322, R332). -/
theorem decision_irqUnraised {n k : Nat} {s u : State} (h : decision n s = .next (u, k)) : IrqUnraised s u := by
  rcases decision_cases h with ⟨-, rfl, -⟩ | ⟨-, rfl, -⟩ | ⟨-, rfl, -⟩ | ⟨-, rfl, -⟩ | ⟨-, rfl, -⟩ | ⟨-, hexec, -⟩
  · have cleared : IrqUnraised s (resetRegisters s) := ⟨nofun, rfl, rfl, rfl⟩
    exact cleared.accesses (Accesses.refl.read16 _).update
  · exact .refl _
  · have unparked : IrqUnraised s ((s.setParked false).setNmiPending false) := ⟨id, rfl, rfl, rfl⟩
    exact unparked.accesses (Accesses.refl.enterInterrupt _ _ _)
  · have cleared : IrqUnraised s ((s.setParked false).setIrqPending false) := ⟨nofun, rfl, rfl, rfl⟩
    exact cleared.accesses (Accesses.refl.enterInterrupt _ _ _)
  · exact .refl _
  · have fetched := (IrqUnraised.refl s).accesses Accesses.refl.fetchInstr
    exact fetched.accesses (accesses_of_exec hexec)

/-- How the IRQ latch may rise from `s` to `t` with edge routing (R36, R337, R345): `raised` says how else
`signal_irq()` may have been called than by a device outside the core. -/
def IrqRise (raised : Prop) (s t : State) : Prop :=
  s.irqPending = false → t.irqPending = true →
    raised ∨ (∃ es ∈ s.reactions, .irq ∈ es) ∨ (s.irqLinePrev = false ∧ t.irqLinePrev = true ∧ t.via.irqLine = true)

theorem IrqUnraised.rise {raised : Prop} {s t : State} (h : IrqUnraised s t) : IrqRise raised s t :=
  fun low high => by simp [h.latch high] at low

/-- Routing raises the latch only on a rising edge (R345). -/
theorem routeIrq_rise {raised : Prop} {s u : State} (edge : u.cfg.irqRouting = .risingEdgePerTick)
    (lastLook : u.irqLinePrev = s.irqLinePrev) (before : IrqRise raised s u) : IrqRise raised s (routeIrq u) := by
  intro low high
  rw [routeIrq_edge edge] at high ⊢
  rcases (Bool.or_eq_true _ _).mp high with latched | rising
  · rcases before low latched with call | reaction | ⟨down, up, -⟩
    · exact .inl call
    · exact .inr (.inl reaction)
    · simp [lastLook, down] at up
  · obtain ⟨line, down⟩ := (Bool.and_eq_true _ _).mp rising
    exact .inr (.inr ⟨by simpa [lastLook] using down, line, line⟩)

/-- The end of a call: at the end of a tick the devices' reactions and the routing may raise the latch. -/
theorem finishCall_rise (raised : Prop) {s u : State} (edge : s.cfg.irqRouting = .risingEdgePerTick)
    (h : IrqUnraised s u) (c : Call) : IrqRise raised s (finishCall c u) := by
  obtain ⟨bus, budget, consumed⟩ := c
  cases bus with
  | false =>
    have ended : IrqUnraised s (finishCall ⟨false, budget, consumed⟩ u) :=
      ⟨h.latch, h.lastLook, h.routing, h.reactions⟩
    exact ended.rise
  | true =>
    rw [finishCall_tick]
    generalize ended : (u.setCall none).setCycles (u.cycles + consumed) = w
    have atEnd : IrqUnraised s w := ended ▸ ⟨h.latch, h.lastLook, h.routing, h.reactions⟩
    obtain ⟨-, down⟩ := tickPeripherals_irqPending consumed u.cfg.peripherals.order w
    obtain ⟨v, r, n, q, b, os, es, frame⟩ := tickPeripherals_frame consumed u.cfg.peripherals.order w
    refine routeIrq_rise ?_ ?_ fun low high => ?_
    · rw [frame]
      exact atEnd.routing.trans edge
    · rw [frame]
      exact atEnd.lastLook
    · rcases down high with latched | reaction
      · simp [atEnd.latch latched] at low
      · exact .inr (.inl (atEnd.reactions ▸ reaction))

/-- A turn of a call: one decision, or the end of the call, or both. -/
theorem runCall_rise (raised : Prop) {c : Call} {s t : State} (edge : s.cfg.irqRouting = .risingEdgePerTick)
    (h : runCall c s = .next t) : IrqRise raised s t := by
  rcases runCall_cases h with ⟨-, rfl⟩ | ⟨-, u, n, decided, rfl⟩
  · exact finishCall_rise raised edge (.refl s) c
  · have unraised := decision_irqUnraised decided
    unfold afterDecision
    split
    · exact IrqUnraised.rise ⟨unraised.latch, unraised.lastLook, unraised.routing, unraised.reactions⟩
    · exact finishCall_rise raised edge unraised _

theorem beginCall_rise (raised : Prop) {bus : Bool} {n : Int} {s t : State}
    (edge : s.cfg.irqRouting = .risingEdgePerTick) (h : beginCall bus n s = .next t) : IrqRise raised s t := by
  rcases lt_or_ge n 0 with negative | budget
  · rw [beginCall_of_neg bus s negative] at h
    cases h
  · rw [beginCall_of_nonneg bus s budget] at h
    exact runCall_rise raised edge h

/-- Of the input events only `signal_irq()` raises the latch (R36). -/
theorem applySignal_rise (e : Signal) (s : State) : IrqRise (e = .irq) s (applySignal e s) := by
  intro low high
  rcases (applySignals_irqPending [e] s).mp high with before | called
  · simp [before] at low
  · exact .inl (List.mem_singleton.mp called).symm

/-- A call of the host that imports no snapshot. -/
theorem hostCall_rise {k : HostCall} {s t : State} (edge : s.cfg.irqRouting = .risingEdgePerTick)
    (noImport : ∀ p, k ≠ .importState p) (h : hostCall k s = .next t) : IrqRise (k = .signal .irq) s t := by
  have unraised {u : State} (accesses : Accesses s u) : IrqRise (k = .signal .irq) s u :=
    ((IrqUnraised.refl s).accesses accesses).rise
  have reported {u : State} (accesses : Accesses s u) (o : Output) : IrqRise (k = .signal .irq) s (report u o) :=
    unraised (u := u) accesses
  cases k with
  | signal e =>
    cases h
    simpa only [HostCall.signal.injEq] using applySignal_rise e s
  | step n | tick n => exact beginCall_rise _ edge h
  | importState p => exact absurd rfl (noImport p)
  | routeIrq =>
    cases h
    exact routeIrq_rise edge rfl (IrqUnraised.refl s).rise
  | read8 addr =>
    cases h
    exact reported (Accesses.refl.read addr) _
  | read16 addr =>
    cases h
    exact reported (Accesses.refl.read16 addr) _
  | write8 addr v =>
    cases h
    exact unraised (Accesses.refl.write addr v)
  | write16 addr w =>
    cases h
    exact unraised (Accesses.refl.write16 addr w)
  | chipReset | chipTick n | registerRead reg | registerWrite reg v | exportState =>
    cases h
    exact fun low high => absurd (high.symm.trans low) nofun

/-- Every step but the import of a snapshot: a turn of a call, or one call of the host. -/
theorem step_rise {s t : State} (edge : s.cfg.irqRouting = .risingEdgePerTick) (h : step s = .next t) :
    (s.call = none ∧ ∃ p rest, s.calls = .importState p :: rest) ∨
      IrqRise (s.call = none ∧ ∃ rest, s.calls = .signal .irq :: rest) s t := by
  rcases step_cases h with ⟨c, -, turn⟩ | ⟨idle, k, rest, queued, made⟩ | ⟨-, -, turn⟩
  · exact .inr (runCall_rise _ edge turn)
  · by_cases hasImport : ∃ p, k = .importState p
    · obtain ⟨p, rfl⟩ := hasImport
      exact .inl ⟨idle, p, rest, queued⟩
    · have rise := hostCall_rise (s := s.setCalls rest) edge (fun p hp => hasImport ⟨p, hp⟩) made
      refine .inr fun low high => (rise low high).imp_left fun (called : k = .signal .irq) => ?_
      exact ⟨idle, rest, called ▸ queued⟩
  · exact .inr (runCall_rise _ edge turn)

/-- Settles O46: the line bit by bit, the routing for both its values, and the latch through a step. -/
theorem irqLatchRisesOncePerEdge : Obligations.IrqLatchRisesOncePerEdge := by
  refine ⟨Via.irqLine_iff_exists, fun s => ⟨routeIrq_edge, routeIrq_level⟩, fun s t h edge low high => ?_⟩
  exact (step_rise edge h).imp_right fun rise => rise low high

end Sys2Proof.Machine
end

section
/-! The reset sequence, the interrupt services and the return (60_exceptions.md R322, R330 to R335). -/

namespace Sys2Proof.Machine

open Sys2Proof.Spec

/-! ### Reset -/

/-- The registers that the reset sequence sets, each by its update (R322). -/
theorem resetRegisters_eq (s : State) : resetRegisters s =
    (((((((((s.setA s.cfg.resetA).setB s.cfg.resetB).setX s.cfg.resetX).setSp s.cfg.resetSp).setFlags
      ⟨s.cfg.resetH, true, s.cfg.resetN, s.cfg.resetZ, s.cfg.resetV, s.cfg.resetC⟩).setNmiPending false).setIrqPending
      false).setHalt false).setParked false).setResetPending false := rfl

/-- No read depends on the registers that the reset sequence sets. -/
theorem read16_resetRegisters (s : State) (a : Word) :
    read16 (resetRegisters s) a = ((read16 s a).1, resetRegisters (read16 s a).2) := by
  simp [resetRegisters_eq]

/-- The reset sequence: the vector read, the registers set, PC loaded (R322). -/
theorem resetSequence_eq (s : State) : resetSequence s =
    (resetRegisters (read16 s s.cfg.vecReset).2).setPc (read16 s s.cfg.vecReset).1 := by
  rw [resetSequence, read16_resetRegisters]

/-- Settles O41: the registers as set, and for the rest what the two reads of the vector leave. -/
theorem resetSequenceLeaves : Obligations.ResetSequenceLeaves := by
  intro s
  have reports : OnlyReadsReported s (resetSequence s) := by
    rw [resetSequence_eq]
    exact (read16_reports s s.cfg.vecReset).trans (.of_outs_eq rfl)
  refine ⟨?_, ?_, ?_, ?_, ?_, ?_, ?_, reports, ?_, ?_, ?_, ?_, ?_, ?_, ?_, ?_, ?_⟩ <;>
    simp [resetSequence_eq, resetRegisters]

/-! ### Interrupt service -/

/-- The frame of a service: pushed unless the CPU is parked, whose frame WAI has pushed (R330). -/
def interruptFrame (s : State) : State := if s.parked then s else framePushed s

/-- A frame leaves the registers, the flags, the latches and the configuration, and takes SP down by 7. -/
theorem interruptFrame_keeps (s : State) : (interruptFrame s).a = s.a ∧ (interruptFrame s).b = s.b ∧
    (interruptFrame s).x = s.x ∧ (interruptFrame s).flags = s.flags ∧
    (interruptFrame s).nmiPending = s.nmiPending ∧ (interruptFrame s).irqPending = s.irqPending ∧
    (interruptFrame s).sp = if s.parked then s.sp else s.sp - 7 := by
  unfold interruptFrame
  split
  · exact ⟨rfl, rfl, rfl, rfl, rfl, rfl, rfl⟩
  · rw [framePushed_sp, ← pushAll_eq_framePushed]
    simp

/-- Taking an interrupt over a frame `p`: the vector is read, I set where `mask` says so, and PC loaded (R295). -/
theorem enterInterrupt_eq {s p : State} {push : Bool} (frame : (if push then pushAll s else s) = p) (mask : Bool)
    (vector : Word) : enterInterrupt s push mask vector =
      ((read16 p vector).2.setFlags { p.flags with i := p.flags.i || mask }).setPc (read16 p vector).1 := by
  rw [enterInterrupt, frame]
  cases mask with
  | true => simp
  | false =>
    have same : (read16 p vector).2.setFlags { p.flags with i := p.flags.i || false } = (read16 p vector).2 := by
      rw [Bool.or_false, ← read16_flags p vector]
      rfl
    rw [same]
    rfl

/-- The NMI service (R331): over the frame, with `parked` and the latch cleared. -/
theorem serviceNmi_eq (s : State) : serviceNmi s =
    ((((read16 (interruptFrame s) s.cfg.vecNmi).2.setFlags { s.flags with i := s.flags.i || s.cfg.nmiSetsI }).setPc
      (read16 (interruptFrame s) s.cfg.vecNmi).1).setParked false).setNmiPending false := by
  have frame : (if !s.parked then pushAll ((s.setParked false).setNmiPending false)
      else (s.setParked false).setNmiPending false) = ((interruptFrame s).setParked false).setNmiPending false := by
    cases parked : s.parked <;> simp [interruptFrame, parked, ← pushAll_eq_framePushed]
  obtain ⟨-, -, -, flags, -⟩ := interruptFrame_keeps s
  rw [serviceNmi, enterInterrupt_eq frame]
  simp only [read16_setNmiPending, read16_setParked, State.setNmiPending_flags, State.setParked_flags, flags]
  rfl

/-- The IRQ service (R332): over the frame, with `parked` and the latch cleared. -/
theorem serviceIrq_eq (s : State) : serviceIrq s =
    ((((read16 (interruptFrame s) s.cfg.vecIrq).2.setFlags { s.flags with i := true }).setPc
      (read16 (interruptFrame s) s.cfg.vecIrq).1).setParked false).setIrqPending false := by
  have frame : (if !s.parked then pushAll ((s.setParked false).setIrqPending false)
      else (s.setParked false).setIrqPending false) = ((interruptFrame s).setParked false).setIrqPending false := by
    cases parked : s.parked <;> simp [interruptFrame, parked, ← pushAll_eq_framePushed]
  obtain ⟨-, -, -, flags, -⟩ := interruptFrame_keeps s
  rw [serviceIrq, enterInterrupt_eq frame]
  simp only [read16_setIrqPending, read16_setParked, State.setIrqPending_flags, State.setParked_flags, flags,
    Bool.or_true]
  rfl

/-- Settles O42: field by field, what the service adds to its frame. -/
theorem interruptService : Obligations.InterruptService := by
  intro s p
  obtain ⟨a, b, x, flags, nmi, irq, sp⟩ := interruptFrame_keeps s
  have frame : interruptFrame s = p := rfl
  rw [frame] at a b x flags nmi irq sp
  rw [serviceNmi_eq, serviceIrq_eq, frame]
  constructor
  · refine ⟨?_, ?_, ?_, ?_, ?_, ?_, ?_, ?_, ?_, ?_, ?_⟩ <;> simp [a, b, x, irq, sp]
  · refine ⟨?_, ?_, ?_, ?_, ?_, ?_, ?_, ?_, ?_, ?_, ?_⟩ <;> simp [a, b, x, nmi, sp]

/-! ### The return -/

section

variable {s t : State} (wf : Memory.wf s.mem = true) (writable : ∀ a ∈ frameAddresses s, Writable s a)
  (cfg : t.cfg = s.cfg) (mem : t.mem = (framePushed s).mem)

include wf writable cfg mem

/-- Where memory holds the frame of `s`, a cell of it is read with its byte, and nothing else happens. -/
theorem read8_frameCell : ∀ c ∈ frameCells s, read8 t c.1 = (c.2, t) := by
  intro c hc
  have backed := backed_of_writable ((writable_congr cfg c.1).mpr (frameCells_writable writable c hc))
  rw [read8_backed _ _ backed, mem, memGet_framePushed wf writable c hc]

/-- Pulling the frame of `s`, whatever has happened since outside memory, restores the registers and flags of `s`. -/
theorem framePulled_of_frame (sp : t.sp = s.sp - 7) : framePulled t =
    (((((t.setSp s.sp).setFlags s.flags).setB s.b).setA s.a).setX s.x).setPc s.pc := by
  have cells := read8_frameCell wf writable cfg mem
  simp only [frameCells, List.forall_mem_cons] at cells
  obtain ⟨pcLow, pcHigh, xLow, xHigh, a, b, cc, -⟩ := cells
  have above : s.sp - 7 + 1 = s.sp - 6 ∧ s.sp - 7 + 2 = s.sp - 5 ∧ s.sp - 7 + 3 = s.sp - 4 ∧ s.sp - 7 + 4 = s.sp - 3 ∧
      s.sp - 7 + 5 = s.sp - 2 ∧ s.sp - 7 + 6 = s.sp - 1 ∧ s.sp - 7 + 7 = s.sp := by bv_omega
  rw [framePulled, State.restore_eq]
  simp only [sp, above, pcLow, pcHigh, xLow, xHigh, a, b, cc, ccFlags_ccByte, ← join_eq_ofNat, join_hi8_lo8]

end

/-- RTI over a frame of `s` in read-write memory. -/
theorem rti_of_frame {s t u : State} (wf : Memory.wf s.mem = true) (writable : ∀ a ∈ frameAddresses s, Writable s a)
    (cfg : t.cfg = s.cfg) (mem : t.mem = (framePushed s).mem) (sp : t.sp = s.sp - 7) (rti : exec .rti t = .next u) :
    u.a = s.a ∧ u.b = s.b ∧ u.x = s.x ∧ u.sp = s.sp ∧ u.pc = s.pc ∧ u.flags = s.flags := by
  rw [exec_rti, execRti, pullAll_eq_framePulled, framePulled_of_frame wf writable cfg mem sp] at rti
  cases rti
  exact ⟨rfl, rfl, rfl, rfl, rfl, rfl⟩

/-- Settles O43: either service leaves the frame in memory and SP below it, and RTI pulls it. -/
theorem returnFromInterruptRestoresTheProgram : Obligations.ReturnFromInterruptRestoresTheProgram := by
  intro s t wf writable awake rti
  obtain ⟨⟨-, -, -, nmiSp, nmiMem, -⟩, ⟨-, -, -, irqSp, irqMem, -⟩⟩ := interruptService s
  simp only [awake, Bool.false_eq_true, if_false] at nmiSp nmiMem irqSp irqMem
  rcases rti with irq | nmi
  · exact rti_of_frame wf writable (serviceIrq_kept s).cfg irqMem irqSp irq
  · exact rti_of_frame wf writable (serviceNmi_kept s).cfg nmiMem nmiSp nmi

end Sys2Proof.Machine
end

section
/-! Words stored to and read from the timer registers of the chip (70_reset_and_hazards.md R411): the byte order of a word
and that of a timer pair are opposite. -/

namespace Sys2Proof.Machine

open Sys2Proof.Spec

/-- Whatever `T2_FREERUN` becomes, a register write does what the store does to the rest of the chip. -/
theorem Via.registerWrite_eq_store (v : Via) (control : Option ControlBit) (reg : BitVec 4) (b : Byte) :
    ∃ freeRun, v.registerWrite control reg b = { v.storeRegister reg b with t2FreeRun := freeRun } :=
  ⟨_, v.registerWrite_frame control reg b⟩

/-- The two bytes of a word written to registers 4 and 5: the first is the latch's low byte, the second its high byte and
arms timer 1. With a control bit either write may set `T2_FREERUN` besides (60_exceptions.md R364, log 11). -/
theorem Via.registerWrite_four_five (control : Option ControlBit) (v : Via) (first second : Byte) :
    ∃ freeRun, (v.registerWrite control 4 first).registerWrite control 5 second =
      { v.clear flagT1 with t1 := ⟨join second first, join second first, true⟩, t2FreeRun := freeRun } := by
  obtain ⟨_, low⟩ := v.registerWrite_eq_store control 4 first
  obtain ⟨freeRun, high⟩ := (v.registerWrite control 4 first).registerWrite_eq_store control 5 second
  refine ⟨freeRun, ?_⟩
  rw [high, low]
  simp [Via.storeRegister, Via.writeT1Low, Via.armT1, Via.clear]

/-- The same for registers 8 and 9 and timer 2 (R365). -/
theorem Via.registerWrite_eight_nine (control : Option ControlBit) (v : Via) (first second : Byte) :
    ∃ freeRun, (v.registerWrite control 8 first).registerWrite control 9 second =
      { v.clear flagT2 with t2 := ⟨join second first, join second first, true⟩, t2FreeRun := freeRun } := by
  obtain ⟨_, low⟩ := v.registerWrite_eq_store control 8 first
  obtain ⟨freeRun, high⟩ := (v.registerWrite control 8 first).registerWrite_eq_store control 9 second
  refine ⟨freeRun, ?_⟩
  rw [high, low]
  simp [Via.storeRegister, Via.writeT2Low, Via.armT2, Via.clear]

/-- A flag that a mask names is off once the mask is cleared. -/
theorem Via.clear_ifr_getLsbD (v : Via) (mask : BitVec 7) {k : Nat} (named : mask.getLsbD k = true) :
    (v.clear mask).ifr.getLsbD k = false := by
  simp [Via.clear, named]

/-- STX or STS stores its word at the destination; the flags of the processor aside, that is all. -/
theorem exec_wordStore {s t : State} {d : Dst} {i : Instr} {w : Word}
    (store : (i = .stx d ∧ w = s.x) ∨ (i = .sts d ∧ w = s.sp)) (run : exec i s = .next t) :
    ∃ f, t = (write16 s (eaDst s d) w).setFlags f := by
  rcases store with ⟨rfl, rfl⟩ | ⟨rfl, rfl⟩
  · rw [exec_stx] at run
    cases run
    exact ⟨_, rfl⟩
  · rw [exec_sts] at run
    cases run
    exact ⟨_, rfl⟩

section

variable {s : State} {a : Word} {r : Region} (high : ownerOf s.cfg.regions a = some r)
  (low : ownerOf s.cfg.regions (a + 1) = some r) (mode : r.mode = .deviceBacked (some .chip))

include high low mode

/-- A word written to the chip: two register writes, its more significant byte first (20_memory.md R69). -/
theorem write16_chip (w : Word) : write16 s a w = s.setVia
    ((s.via.registerWrite s.cfg.t2FreeRunControl (registerAt r a) (hi8 w)).registerWrite s.cfg.t2FreeRunControl
      (registerAt r (a + 1)) (lo8 w)) := by
  rw [write16, write8_chip high mode, write8_chip (s := chipWrite s _ _) low mode]
  rfl

/-- A word read from the timer 1 counter: its low byte comes first, and that read clears the flag (R68, R360). -/
theorem read16_timer1 (four : registerAt r a = 4) (five : registerAt r (a + 1) = 5) :
    read16 s a = (join (lo8 s.via.t1.counter) (hi8 s.via.t1.counter), s.setVia (s.via.clear flagT1)) := by
  have first : read8 s a = (lo8 s.via.t1.counter, s.setVia (s.via.clear flagT1)) := by
    rw [read8_chip high mode, four]
    rfl
  have second : read8 (s.setVia (s.via.clear flagT1)) (a + 1) =
      (hi8 s.via.t1.counter, s.setVia (s.via.clear flagT1)) := by
    rw [read8_chip (s := s.setVia (s.via.clear flagT1)) low mode, five]
    rfl
  simp only [read16, first, second]

end

/-- Settles O60: a word store is two register writes, the less significant byte last, which arms the timer with it on top. -/
theorem wordStoreToTimerSwapsBytes : Obligations.WordStoreToTimerSwapsBytes := by
  intro s a r high low mode
  refine ⟨fun t d i w dest store run => ?_, read16_timer1 high low mode⟩
  obtain ⟨f, rfl⟩ := exec_wordStore store run
  rw [dest, write16_chip high low mode]
  constructor
  · intro four five
    obtain ⟨freeRun, written⟩ := Via.registerWrite_four_five s.cfg.t2FreeRunControl s.via (hi8 w) (lo8 w)
    rw [four, five, written]
    exact ⟨rfl, s.via.clear_ifr_getLsbD flagT1 rfl, rfl, rfl⟩
  · intro eight nine
    obtain ⟨freeRun, written⟩ := Via.registerWrite_eight_nine s.cfg.t2FreeRunControl s.via (hi8 w) (lo8 w)
    rw [eight, nine, written]
    exact ⟨rfl, s.via.clear_ifr_getLsbD flagT2 rfl, rfl, rfl⟩

end Sys2Proof.Machine
end
